-- ==== Sys2Proof/Word.lean ====
section
/-! DEFINITION. The plain word types of the block (spec 00_scope R10: a byte is 8 bits, bit 0 is the least significant). -/

namespace Sys2Proof

/-- One byte of a command, a response or the inbound stream (R10). -/
abbrev Byte := BitVec 8

/-- One RC channel value in raw units, 0 to 2047 (R7 `CH_BITS`, R21). -/
abbrev Chan := BitVec 11

/-- A 16-bit operand, result or staging register (R10 `u16`). -/
abbrev Half := BitVec 16

/-- A 32-bit operand or staging register (R29, R231). -/
abbrev Word := BitVec 32

end Sys2Proof
end

