-- ==== Sys2Proof/Config.lean ====
section
/-! DEFINITION. What one instance of the block fixes (00_scope R6 to R9, 92 "Open parameters"), and the one free value. -/

namespace Sys2Proof

/-- The parameters of one instance of the block: constants that no operation writes (00_scope section 3). Log 1. -/
structure Config where
  /-- `CRC_POLY`, default 0xD5 (R6). -/
  crcPoly : Byte
  /-- `CRC_INIT`, default 0x00 (R6). -/
  crcInit : Byte
  /-- `RC_INIT[0..15]`, OPEN (R7, R281). -/
  rcInit : Vector Chan 16
  /-- `FM_STAR_WHEN`, OPEN with default 0 (R8, R199). -/
  fmStarWhen : Bool
  /-- `TLM_INTERVAL`, OPEN (R8, R230). -/
  tlmInterval : Word
  /-- `EN_RC`: the RC-channel unit is built (R9). -/
  enRc : Bool
  /-- `EN_TLM`: the telemetry encoder is built (R9). -/
  enTlm : Bool
  /-- `EN_LS`: link statistics are built (R9). -/
  enLs : Bool
  /-- `EN_ATT` (R9, R204 kind 0). -/
  enAtt : Bool
  /-- `EN_BARO` (R9, R204 kind 1). -/
  enBaro : Bool
  /-- `EN_BAT` (R9, R204 kind 2). -/
  enBat : Bool
  /-- `EN_GPS` (R9, R204 kind 3). -/
  enGps : Bool
  /-- `EN_FM` (R9, R204 kind 4). -/
  enFm : Bool
  /-- `HAS_ADJ`: the adjacent units LSX, FMC, SCH exist (R3, R9, R220). -/
  hasAdj : Bool
  deriving DecidableEq, Repr

/-- FREE VALUE (log 7): the n-th `draw(1)`, the value a decode writes into `rc_failsafe` (R23, R151, 93 U1).
It has no body, so nothing proved here rests on what it is. -/
opaque Config.freeFailsafe : Nat → Bool

end Sys2Proof
end

