-- ==== Sys2Proof/Machine/Params.lean ====
section
/-! DEFINITION. The named constants of 00_scope R5 to R8 and the instance of the parameters that State.reset takes. -/

namespace Sys2Proof.Params

/-- `SYNC` (R5, D2). -/
def sync : Byte := 0xC8
/-- `MAX_PAYLOAD` (R5). -/
def maxPayload : Nat := 60
/-- `MAX_LEN` = `MAX_PAYLOAD` + 2 = 62 (R5, 90 C5). -/
def maxLen : Nat := maxPayload + 2
/-- `MIN_LEN` (R5, 90 C4). -/
def minLen : Nat := 2
/-- `RC_PAYLOAD_LEN` (R5). -/
def rcPayloadLen : Nat := 22
/-- `RC_FRAME_LEN` (R5). -/
def rcFrameLen : Byte := 24
/-- The length byte of a link-statistics frame (R221, R223). -/
def lsFrameLen : Byte := 12

/-- `T_RC` (R5). -/
def tRc : Byte := 0x16
/-- `T_GPS` (R8, log 13). -/
def tGps : Byte := 0x02
/-- `T_BAT` (R8, log 13). -/
def tBat : Byte := 0x08
/-- `T_BARO` (R8, log 13). -/
def tBaro : Byte := 0x09
/-- `T_LS` (R8, log 13). -/
def tLs : Byte := 0x14
/-- `T_ATT` (R8, log 13). -/
def tAtt : Byte := 0x1E
/-- `T_FM` (R8, log 13). -/
def tFm : Byte := 0x21

/-- The frame types of the named rows of R72; every other type is FRAME.OTHER's. -/
def namedTypes : List Byte := [tRc, tLs, tGps, tBat, tBaro, tAtt, tFm]

/-- `CRC_XOROUT` (R6). -/
def crcXorOut : Byte := 0x00

/-- `K_NUM` (R7). -/
def kNum : Nat := 62477120195241
/-- `K_DEN` = 10^14 (R7). -/
def kDen : Nat := 100000000000000
/-- `US_OFFSET` (R7). -/
def usOffset : Nat := 881

/-- `K_ATT_Q16` (R8). -/
def kAttQ16 : Nat := 1143819
/-- `ALT_MIN_DM` (R8). -/
def altMinDm : Int := 10000
/-- `ALT_THRESHOLD_DM` (R8). -/
def altThresholdDm : Int := 22768
/-- `ALT_MAX_DM` (R8). -/
def altMaxDm : Int := 327655
/-- `GPS_ALT_OFFSET_M` (R8). -/
def gpsAltOffsetM : Int := 1000
/-- `FM_COUNT` (R8, R203). -/
def fmCount : Nat := 8

/-- The instance State.reset takes (log 2): every default of R6, R8 and R9; DESIGN CHOICE for the two OPEN parameters
without one, at the values 95_test_vectors part 3 assumes: `RC_INIT[k]` = 992 and `TLM_INTERVAL` = 100. -/
def defaultConfig : Config :=
  { crcPoly := 0xD5, crcInit := 0x00, rcInit := Vector.replicate 16 992, fmStarWhen := false, tlmInterval := 100,
    enRc := true, enTlm := true, enLs := true, enAtt := true, enBaro := true, enBat := true, enGps := true,
    enFm := true, hasAdj := true }

end Sys2Proof.Params
end

