-- ==== Sys2Proof/Machine/Crc.lean ====
section
/-! DEFINITION. The checksum functions (40_checksum R101, R102) and the frame a type and a payload make (43 R181). -/

namespace Sys2Proof.Machine

/-- One bit of `crc8_upd`: shift left, and apply the polynomial when the bit shifted out is 1 (R101). -/
def crcShift (poly r : Byte) : Byte := if r.msb then (r <<< 1) ^^^ poly else r <<< 1

/-- `n` bits of `crc8_upd` (R101 `repeat`). -/
def crcShifts (poly : Byte) : Nat → Byte → Byte
  | 0, r => r
  | n + 1, r => crcShifts poly n (crcShift poly r)

/-- `crc8_upd(c, b)` for the polynomial `poly` (R101). -/
def crc8Upd (poly c b : Byte) : Byte := crcShifts poly 8 (c ^^^ b)

/-- The loop of R102 from the register value `c` over a byte string (R103). -/
def crc8Run (poly : Byte) : Byte → List Byte → Byte
  | c, [] => c
  | c, b :: bs => crc8Run poly (crc8Upd poly c b) bs

/-- `crc8(s)` (R102) of an instance of the block. -/
def crc8 (cfg : Config) (s : List Byte) : Byte := crc8Run cfg.crcPoly cfg.crcInit s ^^^ Params.crcXorOut

/-- The bytes of a frame with type `t`, a payload and a last byte, in wire order (R50, R70). -/
def frameBytes (t : Byte) (payload : List Byte) (checksum : Byte) : List Byte :=
  [Params.sync, BitVec.ofNat 8 (payload.length + 2), t] ++ payload ++ [checksum]

/-- `build(t, payload)` (R181). -/
def buildFrame (cfg : Config) (t : Byte) (payload : List Byte) : List Byte :=
  frameBytes t payload (crc8 cfg (t :: payload))

end Sys2Proof.Machine
end

