-- ==== Sys2Proof/Machine/Operands.lean ====
section
/-! DEFINITION. Operand forms and byte order: reading operands out of a command, big-endian and little-endian assembly
(00_scope R11 `be_N`, 20_memory R51 to R53, 30_encoding R74 and R75). -/

namespace Sys2Proof.Machine

/-- `be_2(v)` (R11). -/
def be2 (v : Half) : List Byte := [v.extractLsb' 8 8, v.extractLsb' 0 8]

/-- `be_3(v)` (R11). -/
def be3 (v : BitVec 24) : List Byte := [v.extractLsb' 16 8, v.extractLsb' 8 8, v.extractLsb' 0 8]

/-- `be_4(v)` (R11). -/
def be4 (v : Word) : List Byte :=
  [v.extractLsb' 24 8, v.extractLsb' 16 8, v.extractLsb' 8 8, v.extractLsb' 0 8]

/-- `be_2` of each value in order (R151, R155). -/
def be2s : List Half → List Byte
  | [] => []
  | v :: vs => be2 v ++ be2s vs

/-- `cmd[o]`; the decoder looks only inside the command. -/
def byteAt (cmd : List Byte) (o : Nat) : Byte := cmd.getD o 0

/-- The 16-bit big-endian operand at offset `o` (R75). -/
def halfAt (cmd : List Byte) (o : Nat) : Half := byteAt cmd o ++ byteAt cmd (o + 1)

/-- The 32-bit big-endian operand at offset `o` (R75). -/
def wordAt (cmd : List Byte) (o : Nat) : Word := halfAt cmd o ++ halfAt cmd (o + 2)

/-- The `n` bytes from offset `o` on (R75 `[d:n]`). -/
def bytesAt (cmd : List Byte) (o n : Nat) : List Byte := (cmd.drop o).take n

/-- The little-endian integer of a byte string, first byte least significant (R51). -/
def leNat : List Byte → Nat
  | [] => 0
  | b :: bs => b.toNat + 256 * leNat bs

/-- The low `n` bytes of an integer, least significant first (R51, R153). -/
def leBytes : Nat → Nat → List Byte
  | 0, _ => []
  | n + 1, v => BitVec.ofNat 8 v :: leBytes n (v / 256)

/-- Sixteen-bit values laid side by side in 11 bits each, the first in the lowest bits; bits 15:11 are dropped (R153). -/
def packNat : List Half → Nat
  | [] => 0
  | c :: cs => c.toNat % 2048 + 2048 * packNat cs

end Sys2Proof.Machine
end

