-- ==== Sys2Proof/Syntax.lean ====
section
/-! DEFINITION. The instructions: one constructor per row of spec/opcode_table.json, and what the host can present to the block. -/

namespace Sys2Proof

/-- The 22 operations of 30_encoding R76 and the eight wire-frame rows of the table (R70, R72).
A frame row carries the frame's payload and its last byte; sync, length and type follow from it (log 5). -/
inductive Instr where
  /-- `CRC.UPD crc, b` (R105). -/
  | crcUpd (crc b : Byte)
  /-- `CRC.BLK n, d[n]` (R106); `n` is the number of data bytes. -/
  | crcBlk (d : List Byte)
  /-- `CRC.CHK n, d[n], e` (R107). -/
  | crcChk (d : List Byte) (e : Byte)
  /-- `RX.BYTE b` (R121). -/
  | rxByte (b : Byte)
  /-- `RX.RST` (R135). -/
  | rxRst
  /-- `RC.DEC p[22]` (R151). -/
  | rcDec (p : List Byte)
  /-- `RC.ENC c[16]` (R155). -/
  | rcEnc (c : List Half)
  /-- `RC.TOUS raw` (R160). -/
  | rcTous (raw : Half)
  /-- `RC.TORAW us` (R163). -/
  | rcToraw (us : Half)
  /-- `RC.GET index` (R170). -/
  | rcGet (index : Byte)
  /-- `RC.STAT` (R172). -/
  | rcStat
  /-- `TLM.SETATT roll, pitch, yaw` (R182). -/
  | tlmSetatt (roll pitch yaw : Half)
  /-- `TLM.SETBARO alt, vario` (R183). -/
  | tlmSetbaro (alt : Word) (vario : Half)
  /-- `TLM.SETBAT voltage, current, fuel, percent` (R184). -/
  | tlmSetbat (voltage current : Half) (fuel : Word) (percent : Byte)
  /-- `TLM.SETGPS lat, lon, alt, speed, course, sats` (R185). -/
  | tlmSetgps (lat lon alt : Word) (speed course : Half) (sats : Byte)
  /-- `TLM.SETFM id, armed` (R202). -/
  | tlmSetfm (id armed : Byte)
  /-- `TLM.SEND kind` (R206). -/
  | tlmSend (kind : Byte)
  /-- `LS.DEC p[10]` (R222). -/
  | lsDec (p : List Byte)
  /-- `FM.SET id, channel, min, max` (R226). -/
  | fmSet (id channel : Byte) (min max : Half)
  /-- `FM.HANDLE` (R227). -/
  | fmHandle
  /-- `TLM.UPDATE now` (R231). -/
  | tlmUpdate (now : Word)
  /-- `TLM.SENDNEXT` (R233). -/
  | tlmSendnext
  /-- A wire frame of type 0x16 (R72, R85). -/
  | frameRcChannelsPacked (payload : List Byte) (checksum : Byte)
  /-- A wire frame of type 0x14 (R72, R221). -/
  | frameLinkStatistics (payload : List Byte) (checksum : Byte)
  /-- A wire frame of type 0x02 (R72, R194). -/
  | frameGps (payload : List Byte) (checksum : Byte)
  /-- A wire frame of type 0x08 (R72, R192). -/
  | frameBattery (payload : List Byte) (checksum : Byte)
  /-- A wire frame of type 0x09 (R72, R189). -/
  | frameBaroAlt (payload : List Byte) (checksum : Byte)
  /-- A wire frame of type 0x1E (R72, R186). -/
  | frameAttitude (payload : List Byte) (checksum : Byte)
  /-- A wire frame of type 0x21 (R72, R199). -/
  | frameFlightMode (payload : List Byte) (checksum : Byte)
  /-- A wire frame of any other type (R72 last row, R131). -/
  | frameOther (type : Byte) (payload : List Byte) (checksum : Byte)
  deriving DecidableEq, Repr

/-- What the host does next (R13, R280, log 3). -/
inductive Input where
  /-- It issues one command byte string (R13, R75). -/
  | command (cmd : List Byte)
  /-- It gives the block a burst of inbound stream bytes, each by RX.BYTE (R81 `RX.FEED`, R236, R268). -/
  | stream (bytes : List Byte)
  /-- It re-initialises the block: the reset event (R280, R237). -/
  | reset
  deriving DecidableEq, Repr

end Sys2Proof
end

