-- ==== Sys2Proof/WellFormed.lean ====
section
/-! DEFINITION. Which terms of Instr stand for an encoding: the operand counts of 30_encoding R75 and R76 and the frame sizes of R70. -/

namespace Sys2Proof

/-- A frame's payload has 0 to 60 bytes (R70). -/
def payloadFits (payload : List Byte) : Bool := payload.length ≤ Params.maxPayload

/-- The checks: a count byte holds 0 to 255 (R75 `V`, `VB`); P22, C16 and P10 have 22, 16 and 10 operands;
a payload fits (R70); FRAME.OTHER is a type no other frame row names (R72). -/
def Instr.wf : Instr → Bool
  | .crcUpd _ _ => true
  | .crcBlk d => d.length ≤ 255
  | .crcChk d _ => d.length ≤ 255
  | .rxByte _ => true
  | .rxRst => true
  | .rcDec p => p.length == 22
  | .rcEnc c => c.length == 16
  | .rcTous _ => true
  | .rcToraw _ => true
  | .rcGet _ => true
  | .rcStat => true
  | .tlmSetatt _ _ _ => true
  | .tlmSetbaro _ _ => true
  | .tlmSetbat _ _ _ _ => true
  | .tlmSetgps _ _ _ _ _ _ => true
  | .tlmSetfm _ _ => true
  | .tlmSend _ => true
  | .lsDec p => p.length == 10
  | .fmSet _ _ _ _ => true
  | .fmHandle => true
  | .tlmUpdate _ => true
  | .tlmSendnext => true
  | .frameRcChannelsPacked p _ => payloadFits p
  | .frameLinkStatistics p _ => payloadFits p
  | .frameGps p _ => payloadFits p
  | .frameBattery p _ => payloadFits p
  | .frameBaroAlt p _ => payloadFits p
  | .frameAttitude p _ => payloadFits p
  | .frameFlightMode p _ => payloadFits p
  | .frameOther t p _ => payloadFits p && !Params.namedTypes.contains t

end Sys2Proof
end

