-- ==== Sys2Proof/Decode.lean ====
section
/-! DEFINITION. The decoder of commands (30_encoding R75, R76, R79) and of wire frames (R70, R71), total and rejecting by
name, and after it the encoder. -/

namespace Sys2Proof

open Sys2Proof.Machine

/-- Why a byte string is no instruction. -/
inductive DecodeError where
  /-- The empty command (60 R254 a). -/
  | emptyCommand
  /-- `cmd[0]` is none of the 22 codes (60 R254 b). -/
  | unknownCode (op : Byte)
  /-- The command's length is not what its format requires (60 R254 c). -/
  | badCommandLength (op : Byte)
  /-- Fewer than three bytes: no frame (30 R70). -/
  | shortFrame
  /-- The first byte is not `SYNC` (30 R70). -/
  | badSync (b : Byte)
  /-- The length byte is not 2 to 62 (30 R70, R78 a). -/
  | badFrameLength (b : Byte)
  /-- The string is not `L + 2` bytes long (30 R71). -/
  | badFrameSize (b : Byte)
  /-- The re-initialisation of the block has no encoding (70 R280). -/
  | noEncoding
  deriving DecidableEq, Repr

/-- The 22 operation codes of R76. -/
inductive Opcode where
  | crcUpd | crcBlk | crcChk
  | rxByte | rxRst
  | rcDec | rcEnc | rcTous | rcToraw | rcGet | rcStat
  | tlmSetatt | tlmSetbaro | tlmSetbat | tlmSetgps | tlmSetfm | tlmSend
  | lsDec | fmSet | fmHandle | tlmUpdate | tlmSendnext
  deriving DecidableEq, Repr

/-- The value of `cmd[0]` that selects each operation (R76). -/
def Opcode.code : Opcode → Byte
  | .crcUpd => 0x10 | .crcBlk => 0x11 | .crcChk => 0x12
  | .rxByte => 0x20 | .rxRst => 0x21
  | .rcDec => 0x30 | .rcEnc => 0x31 | .rcTous => 0x32 | .rcToraw => 0x33 | .rcGet => 0x34 | .rcStat => 0x35
  | .tlmSetatt => 0x40 | .tlmSetbaro => 0x41 | .tlmSetbat => 0x42 | .tlmSetgps => 0x43 | .tlmSetfm => 0x44
  | .tlmSend => 0x48
  | .lsDec => 0x50 | .fmSet => 0x60 | .fmHandle => 0x61 | .tlmUpdate => 0x70 | .tlmSendnext => 0x71

/-- Every operation, in the order of R76. -/
def Opcode.all : List Opcode :=
  [.crcUpd, .crcBlk, .crcChk, .rxByte, .rxRst, .rcDec, .rcEnc, .rcTous, .rcToraw, .rcGet, .rcStat,
   .tlmSetatt, .tlmSetbaro, .tlmSetbat, .tlmSetgps, .tlmSetfm, .tlmSend, .lsDec, .fmSet, .fmHandle,
   .tlmUpdate, .tlmSendnext]

/-- The operation a code selects: all eight bits are compared (R76). -/
def opcodeOf (b : Byte) : Option Opcode := Opcode.all.find? (fun op => op.code == b)

/-- The command formats of R75. -/
inductive Format where
  | n | b | bb | h | w | v | vb | p22 | c16 | p10 | att | baro | bat | gps | fms
  deriving DecidableEq, Repr

/-- The format of each operation (R76). -/
def Opcode.format : Opcode → Format
  | .crcUpd => .bb | .crcBlk => .v | .crcChk => .vb
  | .rxByte => .b | .rxRst => .n
  | .rcDec => .p22 | .rcEnc => .c16 | .rcTous => .h | .rcToraw => .h | .rcGet => .b | .rcStat => .n
  | .tlmSetatt => .att | .tlmSetbaro => .baro | .tlmSetbat => .bat | .tlmSetgps => .gps | .tlmSetfm => .bb
  | .tlmSend => .b
  | .lsDec => .p10 | .fmSet => .fms | .fmHandle => .n | .tlmUpdate => .w | .tlmSendnext => .n

/-- The total length R75 gives a command of a format; `V` and `VB` take it from the count byte `cmd[1]`. -/
def Format.commandLength (f : Format) (cmd : List Byte) : Nat :=
  match f with
  | .n => 1
  | .b => 2
  | .bb => 3
  | .h => 3
  | .w => 5
  | .v => 2 + (byteAt cmd 1).toNat
  | .vb => 3 + (byteAt cmd 1).toNat
  | .p22 => 23
  | .c16 => 33
  | .p10 => 11
  | .att => 7
  | .baro => 7
  | .bat => 10
  | .gps => 18
  | .fms => 7

/-- The instruction of an operation whose command has its format's length: the operands at the offsets of R75 and R76. -/
def operandsOf (op : Opcode) (cmd : List Byte) : Instr :=
  match op with
  | .crcUpd => .crcUpd (byteAt cmd 1) (byteAt cmd 2)
  | .crcBlk => .crcBlk (bytesAt cmd 2 (byteAt cmd 1).toNat)
  | .crcChk => .crcChk (bytesAt cmd 2 (byteAt cmd 1).toNat) (byteAt cmd (2 + (byteAt cmd 1).toNat))
  | .rxByte => .rxByte (byteAt cmd 1)
  | .rxRst => .rxRst
  | .rcDec => .rcDec (bytesAt cmd 1 22)
  | .rcEnc => .rcEnc ((List.range 16).map fun k => halfAt cmd (1 + 2 * k))
  | .rcTous => .rcTous (halfAt cmd 1)
  | .rcToraw => .rcToraw (halfAt cmd 1)
  | .rcGet => .rcGet (byteAt cmd 1)
  | .rcStat => .rcStat
  | .tlmSetatt => .tlmSetatt (halfAt cmd 1) (halfAt cmd 3) (halfAt cmd 5)
  | .tlmSetbaro => .tlmSetbaro (wordAt cmd 1) (halfAt cmd 5)
  | .tlmSetbat => .tlmSetbat (halfAt cmd 1) (halfAt cmd 3) (wordAt cmd 5) (byteAt cmd 9)
  | .tlmSetgps =>
    .tlmSetgps (wordAt cmd 1) (wordAt cmd 5) (wordAt cmd 9) (halfAt cmd 13) (halfAt cmd 15) (byteAt cmd 17)
  | .tlmSetfm => .tlmSetfm (byteAt cmd 1) (byteAt cmd 2)
  | .tlmSend => .tlmSend (byteAt cmd 1)
  | .lsDec => .lsDec (bytesAt cmd 1 10)
  | .fmSet => .fmSet (byteAt cmd 1) (byteAt cmd 2) (halfAt cmd 3) (halfAt cmd 5)
  | .fmHandle => .fmHandle
  | .tlmUpdate => .tlmUpdate (wordAt cmd 1)
  | .tlmSendnext => .tlmSendnext

/-- Decode a command byte string (R75, R76, R79). -/
def decode (cmd : List Byte) : Except DecodeError Instr :=
  match cmd with
  | [] => .error .emptyCommand
  | op :: rest =>
    match opcodeOf op with
    | none => .error (.unknownCode op)
    | some o =>
      if (op :: rest).length = o.format.commandLength (op :: rest) then .ok (operandsOf o (op :: rest))
      else .error (.badCommandLength op)

/-- The frame row a type byte selects (R72). -/
def frameInstr (t : Byte) (payload : List Byte) (checksum : Byte) : Instr :=
  if t = Params.tRc then .frameRcChannelsPacked payload checksum
  else if t = Params.tLs then .frameLinkStatistics payload checksum
  else if t = Params.tGps then .frameGps payload checksum
  else if t = Params.tBat then .frameBattery payload checksum
  else if t = Params.tBaro then .frameBaroAlt payload checksum
  else if t = Params.tAtt then .frameAttitude payload checksum
  else if t = Params.tFm then .frameFlightMode payload checksum
  else .frameOther t payload checksum

/-- Decode a wire frame (R70, R71). The last byte is taken as it is: whether it is the checksum the receiver decides
(41 R128, R129; log 5). -/
def decodeFrame (bytes : List Byte) : Except DecodeError Instr :=
  match bytes with
  | s :: len :: t :: rest =>
    if s ≠ Params.sync then .error (.badSync s)
    else if len.toNat < Params.minLen ∨ Params.maxLen < len.toNat then .error (.badFrameLength len)
    else if rest.length ≠ len.toNat - 1 then .error (.badFrameSize len)
    else .ok (frameInstr t (rest.take (len.toNat - 2)) (byteAt rest (len.toNat - 2)))
  | _ => .error .shortFrame

/-- Decode what the host presents: a command in the command space, a burst of stream bytes in the wire space. -/
def decodeInput : Input → Except DecodeError Instr
  | .command cmd => decode cmd
  | .stream bytes => decodeFrame bytes
  | .reset => .error .noEncoding

/-- The bytes of an instruction (R70, R75, R76). -/
def encode : Instr → List Byte
  | .crcUpd crc b => [0x10, crc, b]
  | .crcBlk d => [0x11, BitVec.ofNat 8 d.length] ++ d
  | .crcChk d e => [0x12, BitVec.ofNat 8 d.length] ++ d ++ [e]
  | .rxByte b => [0x20, b]
  | .rxRst => [0x21]
  | .rcDec p => [0x30] ++ p
  | .rcEnc c => [0x31] ++ be2s c
  | .rcTous raw => [0x32] ++ be2 raw
  | .rcToraw us => [0x33] ++ be2 us
  | .rcGet index => [0x34, index]
  | .rcStat => [0x35]
  | .tlmSetatt roll pitch yaw => [0x40] ++ be2 roll ++ be2 pitch ++ be2 yaw
  | .tlmSetbaro alt vario => [0x41] ++ be4 alt ++ be2 vario
  | .tlmSetbat voltage current fuel percent => [0x42] ++ be2 voltage ++ be2 current ++ be4 fuel ++ [percent]
  | .tlmSetgps lat lon alt speed course sats =>
    [0x43] ++ be4 lat ++ be4 lon ++ be4 alt ++ be2 speed ++ be2 course ++ [sats]
  | .tlmSetfm id armed => [0x44, id, armed]
  | .tlmSend kind => [0x48, kind]
  | .lsDec p => [0x50] ++ p
  | .fmSet id channel min max => [0x60, id, channel] ++ be2 min ++ be2 max
  | .fmHandle => [0x61]
  | .tlmUpdate now => [0x70] ++ be4 now
  | .tlmSendnext => [0x71]
  | .frameRcChannelsPacked p k => frameBytes Params.tRc p k
  | .frameLinkStatistics p k => frameBytes Params.tLs p k
  | .frameGps p k => frameBytes Params.tGps p k
  | .frameBattery p k => frameBytes Params.tBat p k
  | .frameBaroAlt p k => frameBytes Params.tBaro p k
  | .frameAttitude p k => frameBytes Params.tAtt p k
  | .frameFlightMode p k => frameBytes Params.tFm p k
  | .frameOther t p k => frameBytes t p k

/-- Is the instruction a row of the wire space (R72) rather than of the command space (R76)? -/
def Instr.onWire : Instr → Bool
  | .frameRcChannelsPacked _ _ => true
  | .frameLinkStatistics _ _ => true
  | .frameGps _ _ => true
  | .frameBattery _ _ => true
  | .frameBaroAlt _ _ => true
  | .frameAttitude _ _ => true
  | .frameFlightMode _ _ => true
  | .frameOther _ _ _ => true
  | .crcUpd _ _ => false
  | .crcBlk _ => false
  | .crcChk _ _ => false
  | .rxByte _ => false
  | .rxRst => false
  | .rcDec _ => false
  | .rcEnc _ => false
  | .rcTous _ => false
  | .rcToraw _ => false
  | .rcGet _ => false
  | .rcStat => false
  | .tlmSetatt _ _ _ => false
  | .tlmSetbaro _ _ => false
  | .tlmSetbat _ _ _ _ => false
  | .tlmSetgps _ _ _ _ _ _ => false
  | .tlmSetfm _ _ => false
  | .tlmSend _ => false
  | .lsDec _ => false
  | .fmSet _ _ _ _ => false
  | .fmHandle => false
  | .tlmUpdate _ => false
  | .tlmSendnext => false

/-- How the host presents an instruction: a command, or a burst of stream bytes. -/
def encodeInput (i : Instr) : Input := if i.onWire then .stream (encode i) else .command (encode i)

/-- The payload length a frame row of opcode_table.json names; 4, the least, for FRAME.FLIGHT_MODE; 0 for FRAME.OTHER. -/
def rowPayloadLength (t : Byte) : Nat :=
  if t = Params.tRc then 22
  else if t = Params.tLs then 10
  else if t = Params.tGps then 15
  else if t = Params.tBat then 8
  else if t = Params.tBaro then 4
  else if t = Params.tAtt then 6
  else if t = Params.tFm then 4
  else 0

/-- A byte string brought to `n` bytes: cut, or filled up with zeros. -/
def fitBytes (bytes : List Byte) (n : Nat) : List Byte := (bytes ++ List.replicate n 0).take n

/-- The input that holds a table row's bits, numbered as the table numbers them, every other operand bit zero (log 12).
A row of the command space matches `cmd[0]`; a row of the wire space matches `frame[2]`, so a first byte that is no
operation code is laid out as the type of a well-formed frame: sync, length, payload of zeros and checksum added. -/
def tableInput (nbits w : Nat) : Input :=
  let bytes := leBytes (nbits / 8) w
  let t := byteAt bytes 0
  match (if nbits = 0 then none else opcodeOf t) with
  | some o => .command (fitBytes bytes (o.format.commandLength bytes))
  | none => .stream (buildFrame Params.defaultConfig t (fitBytes (bytes.drop 1) (rowPayloadLength t)))

/-- The instruction the decoder reads from a table row's bits (log 12). -/
def decodeTableWord (nbits w : Nat) : Option Instr := (decodeInput (tableInput nbits w)).toOption

end Sys2Proof
end

