-- ==== Sys2Proof/Machine/Convert.lean ====
section
/-! DEFINITION. The pure conversions: channel packing and unit conversion of RCU (42 R150 to R165) and the payloads of TFE
(43 R186 to R204). -/

namespace Sys2Proof.Machine

/-- `unpack(p)` (R150, R85): channel `k` is bits `11k+10 : 11k` of the little-endian integer of the payload. -/
def unpack (p : List Byte) : Vector Chan 16 := Vector.ofFn fun k => BitVec.ofNat 11 (leNat p >>> (11 * k.val))

/-- `pack(c)` (R153). -/
def pack (c : List Half) : List Byte := leBytes 22 (packNat c)

/-- `to_us(raw)` (R161): exact rational arithmetic, rounded to nearest. -/
def toUs (raw : Half) : Half :=
  BitVec.ofNat 16 ((raw.toNat * Params.kNum + Params.usOffset * Params.kDen + Params.kDen / 2) / Params.kDen)

/-- `z(us)` (R164), for `us >= 881`. -/
def toRawExact (us : Nat) : Nat := ((us - Params.usOffset) * 2 * Params.kDen + Params.kNum) / (2 * Params.kNum)

/-- `to_raw(us)` (R164, R165): saturates below 881 and above 41825. -/
def toRaw (us : Half) : Half :=
  if us.toNat < Params.usOffset then 0
  else if toRawExact us.toNat ≤ 65535 then BitVec.ofNat 16 (toRawExact us.toNat)
  else 65535

/-- `while w > 1800: w = w - 3600`, at most `n` times round (R188). -/
def wrapDown : Nat → Int → Int
  | 0, w => w
  | n + 1, w => if w > 1800 then wrapDown n (w - 3600) else w

/-- `while w < -1800: w = w + 3600`, at most `n` times round (R188). -/
def wrapUp : Nat → Int → Int
  | 0, w => w
  | n + 1, w => if w < -1800 then wrapUp n (w + 3600) else w

/-- `att_wrap(d)` (R188); its loops run at most nine times for a 16-bit input. -/
def attWrap (d : Int) : Int := wrapUp 9 (wrapDown 9 d)

/-- `att_conv(d)` (R187): decidegrees to units of 1/10000 rad, truncated toward zero. -/
def attConv (d : Half) : Int :=
  let w := attWrap d.toInt
  let m := (w.natAbs * Params.kAttQ16) >>> 16
  if 0 ≤ w then m else -m

/-- `payload_ATT` (R186): pitch, roll, yaw on the wire. -/
def payloadAtt (roll pitch yaw : Half) : List Byte :=
  be2 (BitVec.ofInt 16 (attConv pitch)) ++ be2 (BitVec.ofInt 16 (attConv roll)) ++ be2 (BitVec.ofInt 16 (attConv yaw))

/-- `alt_packed(a)` (R190). -/
def altPacked (a : Int) : Half :=
  if a < -Params.altMinDm then 0x0000
  else if a > Params.altMaxDm then 0xFFFE
  else if a < Params.altThresholdDm then BitVec.ofInt 16 (a + Params.altMinDm)
  else BitVec.ofInt 16 ((a + 5) / 10) ||| 0x8000

/-- `payload_BARO` (R189). -/
def payloadBaro (alt : Word) (vario : Half) : List Byte := be2 (altPacked alt.toInt) ++ be2 vario

/-- `(v + 5) div 10` (R193): units of 10 to units of 100, rounded half up. -/
def tenth (v : Half) : Half := BitVec.ofNat 16 ((v.toNat + 5) / 10)

/-- `payload_BAT` (R192): the capacity saturates at 24 bits. -/
def payloadBat (voltage current : Half) (fuel : Word) (percent : Byte) : List Byte :=
  be2 (tenth voltage) ++ be2 (tenth current) ++ be3 (BitVec.ofNat 24 (min fuel.toNat 0xFFFFFF)) ++ [percent]

/-- Ground speed on the wire (R195). -/
def gpsSpeedWire (speed : Half) : Half := BitVec.ofNat 16 ((speed.toNat * 36 + 50) / 100)

/-- Heading on the wire (R195). -/
def gpsHeadingWire (course : Half) : Half := BitVec.ofNat 16 (course.toNat % 3600 * 10)

/-- `clamp(v, lo, hi)` (00 R12). -/
def clamp (v lo hi : Int) : Int := if v < lo then lo else if v > hi then hi else v

/-- Altitude on the wire (R195): floor division, offset 1000 m, clamped to 16 bits. -/
def gpsAltWire (alt : Word) : Half := BitVec.ofInt 16 (clamp (alt.toInt / 100 + Params.gpsAltOffsetM) 0 65535)

/-- The GPS payload (R194): speed, heading, altitude in wire order. -/
def payloadGps (lat lon alt : Word) (speed course : Half) (sats : Byte) : List Byte :=
  be4 lat ++ be4 lon ++ be2 (gpsSpeedWire speed) ++ be2 (gpsHeadingWire course) ++ be2 (gpsAltWire alt) ++ [sats]

/-- `FM_TEXT(id)` (R203). -/
def fmText : Fin 8 → List Byte
  | 0 => [0x41, 0x43, 0x52, 0x4F]
  | 1 => [0x41, 0x43, 0x52, 0x4F]
  | 2 => [0x21, 0x46, 0x53, 0x21]
  | 3 => [0x52, 0x54, 0x48]
  | 4 => [0x4D, 0x41, 0x4E, 0x55]
  | 5 => [0x53, 0x54, 0x41, 0x42]
  | 6 => [0x48, 0x4F, 0x52]
  | 7 => [0x41, 0x49, 0x52]

/-- `payload_FM` (R199): text, `*` when `fm_armed = FM_STAR_WHEN`, terminator. -/
def payloadFm (starWhen : Bool) (id : Fin 8) (armed : Bool) : List Byte :=
  fmText id ++ (if armed = starWhen then [0x2A] else []) ++ [0x00]

end Sys2Proof.Machine
end

