-- ==== Sys2Proof/Machine/State.lean ====
section
/-! DEFINITION. The block's state (10_state R20 to R34, 70_reset R281), its responses, and why a step could stop. -/

namespace Sys2Proof.Machine

/-- `rx_state` (10_state R24): the five values; codes 5 to 7 cannot occur. -/
inductive RxState where
  /-- 0: the next byte is compared with `SYNC`, otherwise discarded. -/
  | idle
  /-- 1: the next byte is the frame length. -/
  | awaitLen
  /-- 2: the next byte is the frame type. -/
  | awaitType
  /-- 3: the next byte is payload byte number `rx_cnt`. -/
  | payload
  /-- 4: the next byte is the checksum. -/
  | awaitCrc
  deriving DecidableEq, Repr

/-- One entry of `fm_slot` (10_state R33, 44 R225). `channel` holds 0 to 15 only, so a slot always names a channel. -/
structure FmSlot where
  channel : Fin 16
  min : Half
  max : Half
  deriving DecidableEq, Repr

/-- The causes of `REJECTED` (60 R251). -/
inductive Cause where
  /-- 0x01: length byte below 2 or above 62. -/
  | badLength
  /-- 0x02: checksum byte differs from `rx_crc`. -/
  | crcMismatch
  deriving DecidableEq, Repr

/-- A completed frame (30 R70, 41 R128). It lives in one response only (10_state R34). -/
structure Frame where
  length : Byte
  type : Byte
  payload : List Byte
  checksum : Byte
  deriving DecidableEq, Repr

/-- A response by its status (30 R77). -/
inductive Response where
  /-- 0x00 and the result bytes. -/
  | ok (result : List Byte)
  /-- 0x01, RX.BYTE only. -/
  | incomplete
  /-- 0x02, RX.BYTE only: event flags and frame. -/
  | complete (ev : Byte) (frame : Frame)
  /-- 0x03, RX.BYTE only. -/
  | rejected (cause : Cause)
  /-- 0xFF, any command (60 R254). -/
  | illegal
  deriving DecidableEq, Repr

/-- The state: the registers of 10_state R20 and R33 and four fields of the model's own (INVENTORY.md, logs 1, 3, 7). -/
structure State where
  /-- The instance's parameters (model's own field, log 1): no step writes it. -/
  cfg : Config
  /-- `rc_ch[0..15]` (R21). -/
  rcCh : Vector Chan 16
  /-- `rc_valid` (R23). -/
  rcValid : Bool
  /-- `rc_failsafe` (R23). -/
  rcFailsafe : Bool
  /-- `rx_state` (R24). -/
  rxState : RxState
  /-- `rx_len` (R26). -/
  rxLen : Byte
  /-- `rx_type` (R26). -/
  rxType : Byte
  /-- `rx_cnt` (R25). -/
  rxCnt : BitVec 6
  /-- `rx_crc` (R27). -/
  rxCrc : Byte
  /-- `rx_buf[0..59]` (R28). -/
  rxBuf : Vector Byte 60
  /-- `att_roll` (R29). -/
  attRoll : Half
  /-- `att_pitch` (R29). -/
  attPitch : Half
  /-- `att_yaw` (R29). -/
  attYaw : Half
  /-- `baro_alt` (R29). -/
  baroAlt : Word
  /-- `baro_vario` (R29). -/
  baroVario : Half
  /-- `bat_voltage` (R29). -/
  batVoltage : Half
  /-- `bat_current` (R29). -/
  batCurrent : Half
  /-- `bat_fuel` (R29). -/
  batFuel : Word
  /-- `bat_percent` (R29). -/
  batPercent : Byte
  /-- `gps_lat` (R29). -/
  gpsLat : Word
  /-- `gps_lon` (R29). -/
  gpsLon : Word
  /-- `gps_alt` (R29). -/
  gpsAlt : Word
  /-- `gps_speed` (R29). -/
  gpsSpeed : Half
  /-- `gps_course` (R29). -/
  gpsCourse : Half
  /-- `gps_sats` (R29). -/
  gpsSats : Byte
  /-- `fm_id` (R29, 43 R203). -/
  fmId : Fin 8
  /-- `fm_armed` (R29). -/
  fmArmed : Bool
  /-- `fm_slot[0..7]` (R33). -/
  fmSlot : Vector FmSlot 8
  /-- `tlm_last` (R33). -/
  tlmLast : Word
  /-- `tlm_idx` (R33): 0 to 4. -/
  tlmIdx : Fin 5
  /-- How many draws have been taken (model's own field, log 7). -/
  draws : Nat
  /-- What the host does next, oldest first (model's own field, log 3). -/
  inbox : List Input
  /-- The responses given to the host, oldest first (model's own field, log 3). -/
  rsps : List (List Byte)
  deriving DecidableEq, Repr

/-- Why a step could stop with a fault: no reason. The block has no trap mechanism (60, opening; R252, R260) and every
operation answers (30 R77), so no definition raises a fault and the type is empty. -/
inductive Fault where
  deriving DecidableEq, Repr

/-- Why a step could be refused. -/
inductive Refusal where
  /-- Raised only by an arm of `exec` for an instruction without a meaning; safe, since nothing can be proved of what it
  does. No arm raises it now: every row of the table has its meaning. -/
  | notModelled (mnemonic : String)
  deriving DecidableEq, Repr

/-- Every register of 70_reset R281 at its reset value, for an instance of the parameters. `rx_buf` is unspecified and
unobservable there: DESIGN CHOICE zeros (log 8). -/
def State.resetWith (cfg : Config) : State :=
  { cfg := cfg
    rcCh := cfg.rcInit, rcValid := false, rcFailsafe := false
    rxState := .idle, rxLen := 0, rxType := 0, rxCnt := 0, rxCrc := cfg.crcInit, rxBuf := Vector.replicate 60 0
    attRoll := 0, attPitch := 0, attYaw := 0
    baroAlt := 0, baroVario := 0
    batVoltage := 0, batCurrent := 0, batFuel := 0, batPercent := 0
    gpsLat := 0, gpsLon := 0, gpsAlt := 0, gpsSpeed := 0, gpsCourse := 0, gpsSats := 0
    fmId := 0, fmArmed := false
    fmSlot := Vector.replicate 8 { channel := 0, min := 0xFFFF, max := 0x0000 }
    tlmLast := 0, tlmIdx := 0
    draws := 0, inbox := [], rsps := [] }

/-- The machine right after reset (R281, R282), of the instance of log 2. -/
def State.reset : State := State.resetWith Params.defaultConfig

end Sys2Proof.Machine
end

