-- ==== Sys2Proof/Machine/Flags.lean ====
section
/-! DEFINITION. The flag bytes: the status byte of RC.STAT (10_state R31, 42 R172) and the event byte of a COMPLETE
response (60 R258). -/

namespace Sys2Proof.Machine

/-- The RC.STAT byte: bit 0 = `rc_valid`, bit 1 = `rc_failsafe`, bits 7:2 zero (R31, R172). -/
def statByte (valid failsafe : Bool) : Byte :=
  (BitVec.ofBool failsafe ++ BitVec.ofBool valid).setWidth 8

/-- The event byte: bit 0 = `EV_RC`, bit 1 = `EV_LS`, bits 7:2 zero (R258). -/
def eventByte (evRc evLs : Bool) : Byte :=
  (BitVec.ofBool evLs ++ BitVec.ofBool evRc).setWidth 8

/-- A boolean result: 0x00 for false, 0x01 for true (30 R77). -/
def boolByte (b : Bool) : Byte := if b then 0x01 else 0x00

end Sys2Proof.Machine
end

