-- ==== Sys2Proof/Machine/Ops.lean ====
section
/-! DEFINITION. The named operations over the state: answering the host (30 R77), the answer ILLEGAL (60 R254), the access
to rx_buf (20 R56), the write of the channel registers by a decode (10 R22, R23), the end of a frame (41 R130) and the
re-initialisation (70 R280). The block has no trap to take and none to return from (60 R260): what stands in an
exception's place is REJECTED (60 R251, R252), the operation `reject` here. -/

namespace Sys2Proof.Machine

/-- The cause byte of a REJECTED response (60 R251). -/
def causeByte : Cause → Byte
  | .badLength => 0x01
  | .crcMismatch => 0x02

/-- The bytes of a response (30 R77). -/
def responseBytes : Response → List Byte
  | .ok result => 0x00 :: result
  | .incomplete => [0x01]
  | .complete ev f => [0x02, ev, f.length, f.type] ++ f.payload ++ [f.checksum]
  | .rejected cause => [0x03, causeByte cause]
  | .illegal => [0xFF]

/-- Return one response to the host (00 R13). -/
def State.answer (s : State) (r : Response) : State := { s with rsps := s.rsps ++ [responseBytes r] }

/-- End an operation of a unit: when the unit is built the state is `t`, else the answer is ILLEGAL and nothing else
changes (60 R254 d, e; R259 check 2). -/
def finish (built : Bool) (s t : State) : Host.Outcome State Fault Refusal :=
  .next (if built then t else s.answer .illegal)

/-- `MemRead(0, rx_cnt)`: the payload bytes received so far, in index order (20 R56 b). -/
def State.payloadRead (s : State) : List Byte := s.rxBuf.toList.take s.rxCnt.toNat

/-- `MemWrite(rx_cnt, 1, b)` (20 R56 a). The index is below 60 in every state a run reaches; past the end nothing is
stored (log 9). -/
def State.payloadWrite (s : State) (b : Byte) : State := { s with rxBuf := s.rxBuf.setIfInBounds s.rxCnt.toNat b }

/-- The writes of a decode (10 R22, R23; 42 R151; 41 R131): all sixteen channels together, `rc_valid` to 1, and
`rc_failsafe` to the next draw, a FREE VALUE (log 7). -/
def State.loadChannels (s : State) (ch : Vector Chan 16) : State :=
  { s with rcCh := ch, rcValid := true, rcFailsafe := Config.freeFailsafe s.draws, draws := s.draws + 1 }

/-- Read channel register `index`; above 15 the sentinel 0 (42 R170). -/
def State.channel (s : State) (index : Nat) : Chan := s.rcCh.toList.getD index 0

/-- The receiver's return to `IDLE` at the end of a frame (41 R128, R129). -/
def State.endFrame (s : State) : State := { s with rxState := .idle, rxCnt := 0 }

/-- `raise Rejected(BAD_LENGTH)`: back to `IDLE`, nothing else changes (41 R125, 60 R251). -/
def State.rejectLength (s : State) : State × Response := ({ s with rxState := .idle }, .rejected .badLength)

/-- `raise Rejected(CRC_MISMATCH)`: back to `IDLE` with `rx_cnt` 0, nothing else changes (41 R129, 60 R251). -/
def State.rejectCrc (s : State) : State × Response := (s.endFrame, .rejected .crcMismatch)

/-- The reset event the host causes by re-initialising the block (70 R280, R281): every register to its reset value;
the instance, the draws taken and the host's two streams are no registers and stay (log 11). -/
def State.reinit (s : State) : State :=
  { State.resetWith s.cfg with draws := s.draws, inbox := s.inbox, rsps := s.rsps }

end Sys2Proof.Machine
end

