-- ==== Sys2Proof/Machine/Tfe.lean ====
section
/-! DEFINITION. The telemetry frame encoder TFE: TLM.SETATT, TLM.SETBARO, TLM.SETBAT, TLM.SETGPS, TLM.SETFM, TLM.SEND
(43_telemetry_encoder R180 to R208). All are ILLEGAL when `EN_TLM` = 0, those of one kind when its enable is 0. -/

namespace Sys2Proof.Machine

/-- The staging write of TLM.SETATT (R182, R205). -/
def State.stageAtt (s : State) (roll pitch yaw : Half) : State :=
  { s with attRoll := roll, attPitch := pitch, attYaw := yaw }

/-- The staging write of TLM.SETBARO (R183, R205). -/
def State.stageBaro (s : State) (alt : Word) (vario : Half) : State := { s with baroAlt := alt, baroVario := vario }

/-- The staging write of TLM.SETBAT (R184, R205). -/
def State.stageBat (s : State) (voltage current : Half) (fuel : Word) (percent : Byte) : State :=
  { s with batVoltage := voltage, batCurrent := current, batFuel := fuel, batPercent := percent }

/-- The staging write of TLM.SETGPS (R185, R205). -/
def State.stageGps (s : State) (lat lon alt : Word) (speed course : Half) (sats : Byte) : State :=
  { s with
    gpsLat := lat, gpsLon := lon, gpsAlt := alt, gpsSpeed := speed, gpsCourse := course, gpsSats := sats }

/-- The staging write of TLM.SETFM (R202, R205). -/
def State.stageFm (s : State) (id : Fin 8) (armed : Bool) : State := { s with fmId := id, fmArmed := armed }

/-- A flight-mode identifier in range: `id < FM_COUNT` (R202, R203, 44 R226). -/
def fmIdOf (id : Byte) : Option (Fin 8) := if h : id.toNat < 8 then some ⟨id.toNat, h⟩ else none

/-- `en(k)`: the enable of sensor kind `k` (R204, 44 R233). -/
def kindEnabled (cfg : Config) : Fin 5 → Bool
  | 0 => cfg.enAtt
  | 1 => cfg.enBaro
  | 2 => cfg.enBat
  | 3 => cfg.enGps
  | 4 => cfg.enFm

/-- The frame type of a sensor kind (R204). -/
def kindType : Fin 5 → Byte
  | 0 => Params.tAtt
  | 1 => Params.tBaro
  | 2 => Params.tBat
  | 3 => Params.tGps
  | 4 => Params.tFm

/-- The payload of a sensor kind from its staging registers (R186 to R199). -/
def State.kindPayload (s : State) : Fin 5 → List Byte
  | 0 => payloadAtt s.attRoll s.attPitch s.attYaw
  | 1 => payloadBaro s.baroAlt s.baroVario
  | 2 => payloadBat s.batVoltage s.batCurrent s.batFuel s.batPercent
  | 3 => payloadGps s.gpsLat s.gpsLon s.gpsAlt s.gpsSpeed s.gpsCourse s.gpsSats
  | 4 => payloadFm s.cfg.fmStarWhen s.fmId s.fmArmed

/-- The frame TLM.SEND returns for a sensor kind (R206, R181). -/
def State.kindFrame (s : State) (k : Fin 5) : List Byte := buildFrame s.cfg (kindType k) (s.kindPayload k)

/-- A sensor kind in range: `kind <= 4` (R204, R206). -/
def kindOf (kind : Byte) : Option (Fin 5) := if h : kind.toNat < 5 then some ⟨kind.toNat, h⟩ else none

/-- `TLM.SETATT roll, pitch, yaw` (R182). -/
def execTlmSetatt (roll pitch yaw : Half) (s : State) : Host.Outcome State Fault Refusal :=
  finish (s.cfg.enTlm && s.cfg.enAtt) s ((s.stageAtt roll pitch yaw).answer (.ok []))

/-- `TLM.SETBARO alt, vario` (R183). -/
def execTlmSetbaro (alt : Word) (vario : Half) (s : State) : Host.Outcome State Fault Refusal :=
  finish (s.cfg.enTlm && s.cfg.enBaro) s ((s.stageBaro alt vario).answer (.ok []))

/-- `TLM.SETBAT voltage, current, fuel, percent` (R184). -/
def execTlmSetbat (voltage current : Half) (fuel : Word) (percent : Byte) (s : State) :
    Host.Outcome State Fault Refusal :=
  finish (s.cfg.enTlm && s.cfg.enBat) s ((s.stageBat voltage current fuel percent).answer (.ok []))

/-- `TLM.SETGPS lat, lon, alt, speed, course, sats` (R185). -/
def execTlmSetgps (lat lon alt : Word) (speed course : Half) (sats : Byte) (s : State) :
    Host.Outcome State Fault Refusal :=
  finish (s.cfg.enTlm && s.cfg.enGps) s ((s.stageGps lat lon alt speed course sats).answer (.ok []))

/-- `TLM.SETFM id, armed` (R202): an identifier out of range is a soft failure, nothing staged. -/
def execTlmSetfm (id armed : Byte) (s : State) : Host.Outcome State Fault Refusal :=
  finish (s.cfg.enTlm && s.cfg.enFm) s
    (match fmIdOf id with
     | some i => (s.stageFm i (armed != 0)).answer (.ok [boolByte true])
     | none => s.answer (.ok [boolByte false]))

/-- `TLM.SEND kind` (R206): above 4 an empty result; a kind whose enable is 0 is ILLEGAL (60 R254 d). -/
def execTlmSend (kind : Byte) (s : State) : Host.Outcome State Fault Refusal :=
  match kindOf kind with
  | some k => finish (s.cfg.enTlm && kindEnabled s.cfg k) s (s.answer (.ok (s.kindFrame k)))
  | none => finish s.cfg.enTlm s (s.answer (.ok []))

end Sys2Proof.Machine
end

