-- ==== Sys2Proof/Machine/Adjacent.lean ====
section
/-! DEFINITION. The adjacent units LSX, FMC and SCH: LS.DEC, FM.SET, FM.HANDLE, TLM.UPDATE, TLM.SENDNEXT
(44_adjacent_units R220 to R233). All are ILLEGAL when `HAS_ADJ` = 0. -/

namespace Sys2Proof.Machine

/-- The `LinkStatistics` record (R221), fields in payload order; the two SNR fields are read by `toInt` (`sext_8`). -/
structure LinkStats where
  upRssi1 : Byte
  upRssi2 : Byte
  upLq : Byte
  upSnr : Byte
  antenna : Byte
  rfMode : Byte
  upTxPower : Byte
  dnRssi : Byte
  dnLq : Byte
  dnSnr : Byte
  deriving DecidableEq, Repr

/-- The record of a link-statistics payload: one byte per field at offsets 0 to 9, values as received (R221). -/
def linkStatsOf (p : List Byte) : LinkStats :=
  { upRssi1 := byteAt p 0, upRssi2 := byteAt p 1, upLq := byteAt p 2, upSnr := byteAt p 3, antenna := byteAt p 4,
    rfMode := byteAt p 5, upTxPower := byteAt p 6, dnRssi := byteAt p 7, dnLq := byteAt p 8, dnSnr := byteAt p 9 }

/-- The ten fields in the order of R221 (R222). -/
def linkStatsBytes (r : LinkStats) : List Byte :=
  [r.upRssi1, r.upRssi2, r.upLq, r.upSnr, r.antenna, r.rfMode, r.upTxPower, r.dnRssi, r.dnLq, r.dnSnr]

/-- `LS.DEC p` (R222). -/
def execLsDec (p : List Byte) (s : State) : Host.Outcome State Fault Refusal :=
  finish (s.cfg.hasAdj && s.cfg.enLs) s (s.answer (.ok (linkStatsBytes (linkStatsOf p))))

/-- The write of one slot (R226). -/
def State.setSlot (s : State) (id : Fin 8) (slot : FmSlot) : State := { s with fmSlot := s.fmSlot.set id slot }

/-- A slot channel in range: `channel <= 15` (R226). -/
def channelOf (channel : Byte) : Option (Fin 16) :=
  if h : channel.toNat < 16 then some ⟨channel.toNat, h⟩ else none

/-- `FM.SET id, channel, min, max` (R226): two soft failures, the table unchanged. -/
def execFmSet (id channel : Byte) (min max : Half) (s : State) : Host.Outcome State Fault Refusal :=
  finish s.cfg.hasAdj s
    (match fmIdOf id, channelOf channel with
     | some i, some c => (s.setSlot i { channel := c, min := min, max := max }).answer (.ok [boolByte true])
     | _, _ => s.answer (.ok [boolByte false]))

/-- Does slot `id` match: its channel's raw value lies in `[min, max]`, both ends included (R225, R227)? -/
def State.slotMatches (s : State) (id : Fin 8) : Bool :=
  let slot := s.fmSlot[id]
  slot.min.toNat ≤ s.rcCh[slot.channel].toNat && s.rcCh[slot.channel].toNat ≤ slot.max.toNat

/-- The identifiers in ascending order (R227 `for id = 0 .. FM_COUNT-1`). -/
def fmIds : List (Fin 8) := [0, 1, 2, 3, 4, 5, 6, 7]

/-- The first identifier whose slot matches (R227: the first match wins). -/
def State.classify (s : State) : Option (Fin 8) := fmIds.find? (fun id => s.slotMatches id)

/-- `FM.HANDLE` (R227). -/
def execFmHandle (s : State) : Host.Outcome State Fault Refusal :=
  finish s.cfg.hasAdj s
    (s.answer (.ok
      (match s.classify with
       | some id => [boolByte true, BitVec.ofNat 8 id.val]
       | none => [boolByte false])))

/-- `TLM.UPDATE now` (R231): elapsed time modulo 2^32. -/
def execTlmUpdate (now : Word) (s : State) : Host.Outcome State Fault Refusal :=
  finish (s.cfg.enTlm && s.cfg.hasAdj) s
    (if s.cfg.tlmInterval.toNat ≤ (now - s.tlmLast).toNat then
      { s with tlmLast := now }.answer (.ok [boolByte true])
    else s.answer (.ok [boolByte false]))

/-- The first enabled kind from `k` on, in round-robin order (R233 `while en(k) == 0: k = (k + 1) mod 5`), looking at
`n` kinds at most. -/
def nextKind (cfg : Config) : Nat → Fin 5 → Option (Fin 5)
  | 0, _ => none
  | n + 1, k => if kindEnabled cfg k then some k else nextKind cfg n (k + 1)

/-- `TLM.SENDNEXT` (R233). -/
def execTlmSendnext (s : State) : Host.Outcome State Fault Refusal :=
  finish (s.cfg.enTlm && s.cfg.hasAdj) s
    (match nextKind s.cfg 5 s.tlmIdx with
     | none => s.answer (.ok [])
     | some k => { s with tlmIdx := k + 1 }.answer (.ok (s.kindFrame k)))

end Sys2Proof.Machine
end

