-- ==== Sys2Proof/Machine/Csu.lean ====
section
/-! DEFINITION. The checksum unit CSU: CRC.UPD, CRC.BLK, CRC.CHK (40_checksum R105 to R107). It has no state. -/

namespace Sys2Proof.Machine

/-- `CRC.UPD crc, b` (R105). -/
def execCrcUpd (crc b : Byte) (s : State) : Host.Outcome State Fault Refusal :=
  .next (s.answer (.ok [crc8Upd s.cfg.crcPoly crc b]))

/-- `CRC.BLK n, d` (R106). -/
def execCrcBlk (d : List Byte) (s : State) : Host.Outcome State Fault Refusal :=
  .next (s.answer (.ok [crc8 s.cfg d]))

/-- `CRC.CHK n, d, e` (R107): a mismatch is the result 0, no failure. -/
def execCrcChk (d : List Byte) (e : Byte) (s : State) : Host.Outcome State Fault Refusal :=
  .next (s.answer (.ok [boolByte (crc8 s.cfg d == e)]))

end Sys2Proof.Machine
end

