-- ==== Sys2Proof/Machine/Frx.lean ====
section
/-! DEFINITION. The frame receiver FRX: RX.BYTE and RX.RST (41_frame_receiver R121 to R136). One definition per state of
R122. -/

namespace Sys2Proof.Machine

/-- State `IDLE` (R123). -/
def rxIdle (b : Byte) (s : State) : State × Response :=
  (if b = Params.sync then { s with rxState := .awaitLen } else s, .incomplete)

/-- State `AWAIT_LEN` (R124, R125). -/
def rxAwaitLen (b : Byte) (s : State) : State × Response :=
  if Params.minLen ≤ b.toNat ∧ b.toNat ≤ Params.maxLen then
    ({ s with rxLen := b, rxState := .awaitType }, .incomplete)
  else s.rejectLength

/-- State `AWAIT_TYPE` (R126, R136): the checksum starts with the type byte. -/
def rxAwaitType (b : Byte) (s : State) : State × Response :=
  ({ s with
      rxType := b, rxCrc := crc8Upd s.cfg.crcPoly s.cfg.crcInit b, rxCnt := 0
      rxState := if s.rxLen.toNat = 2 then .awaitCrc else .payload }, .incomplete)

/-- State `PAYLOAD` (R127); `rx_cnt` is the value before the operation (00 R11), the sums are integers (log 10). -/
def rxPayload (b : Byte) (s : State) : State × Response :=
  ({ s.payloadWrite b with
      rxCrc := crc8Upd s.cfg.crcPoly s.rxCrc b, rxCnt := s.rxCnt + 1
      rxState := if s.rxCnt.toNat + 3 = s.rxLen.toNat then .awaitCrc else .payload }, .incomplete)

/-- Is a completed frame routed to RCU (R131, first condition)? -/
def routesRc (cfg : Config) (f : Frame) : Bool :=
  cfg.enRc && f.type == Params.tRc && f.length == Params.rcFrameLen

/-- Is a completed frame a link-statistics frame (R131, second condition; 44 R223)? -/
def routesLs (cfg : Config) (f : Frame) : Bool :=
  !routesRc cfg f && cfg.hasAdj && cfg.enLs && f.type == Params.tLs && f.length == Params.lsFrameLen

/-- `route(frame)` (R131): the register writes of the routing. -/
def routeFrame (f : Frame) (s : State) : State :=
  if routesRc s.cfg f then s.loadChannels (unpack f.payload) else s

/-- The event byte of a completed frame (R131, 60 R258). -/
def routeEvents (cfg : Config) (f : Frame) : Byte := eventByte (routesRc cfg f) (routesLs cfg f)

/-- The frame a COMPLETE step emits (R128). -/
def receivedFrame (b : Byte) (s : State) : Frame :=
  { length := s.rxLen, type := s.rxType, payload := s.payloadRead, checksum := b }

/-- State `AWAIT_CRC` (R128, R129). -/
def rxAwaitCrc (b : Byte) (s : State) : State × Response :=
  if b = s.rxCrc then
    ((routeFrame (receivedFrame b s) s).endFrame,
      .complete (routeEvents s.cfg (receivedFrame b s)) (receivedFrame b s))
  else s.rejectCrc

/-- The whole machine of R122: the state's rule decides. -/
def rxStep (b : Byte) (s : State) : State × Response :=
  match s.rxState with
  | .idle => rxIdle b s
  | .awaitLen => rxAwaitLen b s
  | .awaitType => rxAwaitType b s
  | .payload => rxPayload b s
  | .awaitCrc => rxAwaitCrc b s

/-- One RX.BYTE: the transition and its response (R121). -/
def State.receive (s : State) (b : Byte) : State := (rxStep b s).1.answer (rxStep b s).2

/-- `RX.FEED {b0 b1 ...}` (30 R81): the bytes one after another, each by RX.BYTE. -/
def State.feed : State → List Byte → State
  | s, [] => s
  | s, b :: bs => (s.receive b).feed bs

/-- `RX.BYTE b` (R121, R122). -/
def execRxByte (b : Byte) (s : State) : Host.Outcome State Fault Refusal := .next (s.receive b)

/-- `RX.RST` (R135). -/
def execRxRst (s : State) : Host.Outcome State Fault Refusal :=
  .next ({ s with rxState := .idle, rxCnt := 0, rxCrc := s.cfg.crcInit }.answer (.ok []))

end Sys2Proof.Machine
end

