-- ==== Sys2Proof/Machine/Frames.lean ====
section
/-! DEFINITION. The eight wire-frame rows of the table (30_encoding R70, R72): a whole frame arriving on the inbound
stream. Its meaning is RX.FEED of its bytes (R81), so the receiver's rules R122 to R131 decide everything (log 5). -/

namespace Sys2Proof.Machine

/-- A frame on the wire is given to the receiver byte by byte (R50, R58, R81). -/
def receiveFrame (t : Byte) (payload : List Byte) (checksum : Byte) (s : State) : State :=
  s.feed (frameBytes t payload checksum)

/-- FRAME.RC_CHANNELS_PACKED: routed to RCU when it completes with length 24 (R85, R131). -/
def execFrameRcChannelsPacked (payload : List Byte) (checksum : Byte) (s : State) :
    Host.Outcome State Fault Refusal := .next (receiveFrame Params.tRc payload checksum s)

/-- FRAME.LINK_STATISTICS: sets `EV_LS` when it completes with length 12 (R221, R223). -/
def execFrameLinkStatistics (payload : List Byte) (checksum : Byte) (s : State) :
    Host.Outcome State Fault Refusal := .next (receiveFrame Params.tLs payload checksum s)

/-- FRAME.GPS: received, it takes the no-op path (R131); built by TLM.SEND 3 (R194). -/
def execFrameGps (payload : List Byte) (checksum : Byte) (s : State) :
    Host.Outcome State Fault Refusal := .next (receiveFrame Params.tGps payload checksum s)

/-- FRAME.BATTERY: received, it takes the no-op path (R131); built by TLM.SEND 2 (R192). -/
def execFrameBattery (payload : List Byte) (checksum : Byte) (s : State) :
    Host.Outcome State Fault Refusal := .next (receiveFrame Params.tBat payload checksum s)

/-- FRAME.BARO_ALT: received, it takes the no-op path (R131); built by TLM.SEND 1 (R189). -/
def execFrameBaroAlt (payload : List Byte) (checksum : Byte) (s : State) :
    Host.Outcome State Fault Refusal := .next (receiveFrame Params.tBaro payload checksum s)

/-- FRAME.ATTITUDE: received, it takes the no-op path (R131); built by TLM.SEND 0 (R186). -/
def execFrameAttitude (payload : List Byte) (checksum : Byte) (s : State) :
    Host.Outcome State Fault Refusal := .next (receiveFrame Params.tAtt payload checksum s)

/-- FRAME.FLIGHT_MODE: received, it takes the no-op path (R131); built by TLM.SEND 4 (R199). -/
def execFrameFlightMode (payload : List Byte) (checksum : Byte) (s : State) :
    Host.Outcome State Fault Refusal := .next (receiveFrame Params.tFm payload checksum s)

/-- FRAME.OTHER: accepted, emitted with `ev` = 0, no routing (R131). -/
def execFrameOther (type : Byte) (payload : List Byte) (checksum : Byte) (s : State) :
    Host.Outcome State Fault Refusal := .next (receiveFrame type payload checksum s)

end Sys2Proof.Machine
end

