-- ==== Sys2Proof/Machine/Rcu.lean ====
section
/-! DEFINITION. The RC-channel unit RCU: RC.DEC, RC.ENC, RC.TOUS, RC.TORAW, RC.GET, RC.STAT (42_rc_channel R150 to R172).
All are ILLEGAL when `EN_RC` = 0. -/

namespace Sys2Proof.Machine

/-- An 11-bit channel in a 16-bit container, bits 15:11 zero (R150). -/
def chanHalf (c : Chan) : Half := c.setWidth 16

/-- `RC.DEC p` (R151). -/
def execRcDec (p : List Byte) (s : State) : Host.Outcome State Fault Refusal :=
  finish s.cfg.enRc s ((s.loadChannels (unpack p)).answer (.ok (be2s ((unpack p).toList.map chanHalf))))

/-- `RC.ENC c` (R155). -/
def execRcEnc (c : List Half) (s : State) : Host.Outcome State Fault Refusal :=
  finish s.cfg.enRc s (s.answer (.ok (pack c)))

/-- `RC.TOUS raw` (R160). -/
def execRcTous (raw : Half) (s : State) : Host.Outcome State Fault Refusal :=
  finish s.cfg.enRc s (s.answer (.ok (be2 (toUs raw))))

/-- `RC.TORAW us` (R163). -/
def execRcToraw (us : Half) (s : State) : Host.Outcome State Fault Refusal :=
  finish s.cfg.enRc s (s.answer (.ok (be2 (toRaw us))))

/-- `RC.GET index` (R170): the sentinel 0 above 15. -/
def execRcGet (index : Byte) (s : State) : Host.Outcome State Fault Refusal :=
  finish s.cfg.enRc s (s.answer (.ok (be2 (chanHalf (s.channel index.toNat)))))

/-- `RC.STAT` (R172). -/
def execRcStat (s : State) : Host.Outcome State Fault Refusal :=
  finish s.cfg.enRc s (s.answer (.ok [statByte s.rcValid s.rcFailsafe]))

end Sys2Proof.Machine
end

