-- ==== Sys2Proof/Machine/Dispatch.lean ====
section
/-! DEFINITION. The dispatch: one arm per constructor of Instr. -/

namespace Sys2Proof.Machine

def exec (i : Instr) (s : State) : Host.Outcome State Fault Refusal :=
  match i with
  | .crcUpd crc b => Sys2Proof.Machine.execCrcUpd crc b s
  | .crcBlk d => Sys2Proof.Machine.execCrcBlk d s
  | .crcChk d e => Sys2Proof.Machine.execCrcChk d e s
  | .rxByte b => Sys2Proof.Machine.execRxByte b s
  | .rxRst => Sys2Proof.Machine.execRxRst s
  | .rcDec p => Sys2Proof.Machine.execRcDec p s
  | .rcEnc c => Sys2Proof.Machine.execRcEnc c s
  | .rcTous raw => Sys2Proof.Machine.execRcTous raw s
  | .rcToraw us => Sys2Proof.Machine.execRcToraw us s
  | .rcGet index => Sys2Proof.Machine.execRcGet index s
  | .rcStat => Sys2Proof.Machine.execRcStat s
  | .tlmSetatt roll pitch yaw => Sys2Proof.Machine.execTlmSetatt roll pitch yaw s
  | .tlmSetbaro alt vario => Sys2Proof.Machine.execTlmSetbaro alt vario s
  | .tlmSetbat voltage current fuel percent => Sys2Proof.Machine.execTlmSetbat voltage current fuel percent s
  | .tlmSetgps lat lon alt speed course sats => Sys2Proof.Machine.execTlmSetgps lat lon alt speed course sats s
  | .tlmSetfm id armed => Sys2Proof.Machine.execTlmSetfm id armed s
  | .tlmSend kind => Sys2Proof.Machine.execTlmSend kind s
  | .lsDec p => Sys2Proof.Machine.execLsDec p s
  | .fmSet id channel min max => Sys2Proof.Machine.execFmSet id channel min max s
  | .fmHandle => Sys2Proof.Machine.execFmHandle s
  | .tlmUpdate now => Sys2Proof.Machine.execTlmUpdate now s
  | .tlmSendnext => Sys2Proof.Machine.execTlmSendnext s
  | .frameRcChannelsPacked payload checksum => Sys2Proof.Machine.execFrameRcChannelsPacked payload checksum s
  | .frameLinkStatistics payload checksum => Sys2Proof.Machine.execFrameLinkStatistics payload checksum s
  | .frameGps payload checksum => Sys2Proof.Machine.execFrameGps payload checksum s
  | .frameBattery payload checksum => Sys2Proof.Machine.execFrameBattery payload checksum s
  | .frameBaroAlt payload checksum => Sys2Proof.Machine.execFrameBaroAlt payload checksum s
  | .frameAttitude payload checksum => Sys2Proof.Machine.execFrameAttitude payload checksum s
  | .frameFlightMode payload checksum => Sys2Proof.Machine.execFrameFlightMode payload checksum s
  | .frameOther type payload checksum => Sys2Proof.Machine.execFrameOther type payload checksum s

end Sys2Proof.Machine
end

