-- ==== Sys2Proof/Machine/Fetch.lean ====
section
/-! DEFINITION. What one input of the host does: fetching an instruction from it and running it (00_scope R13). -/

namespace Sys2Proof.Machine

/-- A command: decoded and run, or answered ILLEGAL with no other change (30 R79, 60 R254 a to c). -/
def runCommand (cmd : List Byte) (s : State) : Host.Outcome State Fault Refusal :=
  match decode cmd with
  | .ok i => exec i s
  | .error _ => .next (s.answer .illegal)

/-- A burst of stream bytes: a whole frame runs as its row's instruction; any other bytes go to RX.BYTE one by one
(30 R81, 41 R123, R133; log 6). -/
def runStream (bytes : List Byte) (s : State) : Host.Outcome State Fault Refusal :=
  match decodeFrame bytes with
  | .ok i => exec i s
  | .error _ => .next (s.feed bytes)

/-- One input of the host (log 3). -/
def runInput (i : Input) (s : State) : Host.Outcome State Fault Refusal :=
  match i with
  | .command cmd => runCommand cmd s
  | .stream bytes => runStream bytes s
  | .reset => .next s.reinit

/-- Take the host's next input; with none, nothing happens and every register holds (60 R257, R266; log 4). -/
def fetchAndRun (s : State) : Host.Outcome State Fault Refusal :=
  match s.inbox with
  | [] => .next s
  | i :: rest => runInput i { s with inbox := rest }

/-- The state with an input put before all others. -/
def State.present (s : State) (i : Input) : State := { s with inbox := i :: s.inbox }

end Sys2Proof.Machine
end

