-- ==== Sys2Proof/Machine/Step.lean ====
section
/-! DEFINITION. One step of the machine. -/

namespace Sys2Proof.Machine

/-- One step: the host's next input (00_scope R13). -/
def step : State → Host.Outcome State Fault Refusal := fun s => fetchAndRun s

/-- The state with the instruction of a table row's bits presented next (log 12). -/
def State.withFetchWord (s : State) (nbits w : Nat) : State := s.present (tableInput nbits w)

end Sys2Proof.Machine
end

