-- ==== Sys2Proof/Safety.lean ====
section
/-! DEFINITION. What counts as a safe step, and the invariants of the block (10_state R25 to R27, R23; 70 R292). -/

namespace Sys2Proof.Machine

/-- A step is safe when it answers a next state: no operation blocks, faults or is refused (44 R236). -/
def Safe (o : Host.Outcome State Fault Refusal) : Prop := ∃ t, o = .next t

/-- The receiver's invariant (10_state R25, R26, R27): `rx_cnt` is 0 outside a payload, counts below `rx_len - 2` in
`PAYLOAD` and equals it in `AWAIT_CRC`; `rx_len` is legal from `AWAIT_TYPE` on; `rx_crc` is the checksum of the type and
the payload bytes received so far. -/
def State.RxInv (s : State) : Prop :=
  match s.rxState with
  | .idle => s.rxCnt = 0
  | .awaitLen => s.rxCnt = 0
  | .awaitType => s.rxCnt = 0 ∧ 2 ≤ s.rxLen.toNat ∧ s.rxLen.toNat ≤ 62
  | .payload => s.rxCnt.toNat + 2 < s.rxLen.toNat ∧ s.rxLen.toNat ≤ 62 ∧
      s.rxCrc = crc8 s.cfg (s.rxType :: s.payloadRead)
  | .awaitCrc => s.rxCnt.toNat + 2 = s.rxLen.toNat ∧ s.rxLen.toNat ≤ 62 ∧
      s.rxCrc = crc8 s.cfg (s.rxType :: s.payloadRead)

/-- Until the first decode the channel registers hold `RC_INIT` and the failsafe flag its reset value (70 R292, 10 R23). -/
def State.RcInv (s : State) : Prop := s.rcValid = false → s.rcCh = s.cfg.rcInit ∧ s.rcFailsafe = false

/-- The invariant of the block. -/
def State.Inv (s : State) : Prop := s.RxInv ∧ s.RcInv

end Sys2Proof.Machine
end

