-- ==== Sys2Proof/Certificates/Slice0/Obligations.lean ====
section
/-! DEFINITION. The statements about the model, and the tables and formulas of the spec they are written with. -/

namespace Sys2Proof.Claims

open Sys2Proof.Machine

/-! The spec's own notation. -/

/-- `s` with one response more and NOTHING ELSE changed: with an explicit record update before it, the frame of an
operation (00_scope R13, 20_memory R57). -/
def told (s : State) (bytes : List Byte) : State := { s with rsps := s.rsps ++ [bytes] }

/-- `be_N(v)` of 00_scope R11: `be_N(v)[i] = (v >> (8·(N−1−i))) & 0xFF`. -/
def be (n : Nat) (v : Int) : List Byte := (List.range n).map fun i => BitVec.ofInt 8 (v / 256 ^ (n - 1 - i))

/-- The wire layout of 30_encoding R70 with `checksum = crc8(type ++ payload)`. -/
def wireFrame (cfg : Config) (t : Byte) (payload : List Byte) : List Byte :=
  [0xC8, BitVec.ofNat 8 (payload.length + 2), t] ++ payload ++ [crc8 cfg (t :: payload)]

/-- Operations issued one after another (00_scope R13); `none` if one of them does not answer a next state. -/
def runAll : List Instr → State → Option State
  | [], s => some s
  | i :: is, s =>
    match exec i s with
    | .next t => runAll is t
    | .fault _ => none
    | .refused _ => none

/-- The "Encoding" clause of an operation's rule, for a fixed format: `bytes` is its command, and no command with the same
code and another length is one (30_encoding R75, R79). -/
def Encoded (i : Instr) (bytes : List Byte) : Prop :=
  decode bytes = .ok i ∧ ∀ cmd, cmd.head? = bytes.head? → cmd.length ≠ bytes.length → ∀ j, decode cmd ≠ .ok j

/-- The "ILLEGAL" clause of an operation's rule: the answer is 0xFF and no state changes (60_exceptions R254). -/
def Illegal (i : Instr) (s : State) : Prop := exec i s = .next (told s [0xFF])

/-- `RX.FEED {b0 b1 ...}` by its expansion (30_encoding R81). -/
def rxFeed (bytes : List Byte) (s : State) : Option State := runAll (bytes.map Instr.rxByte) s

/-- The rows of 30_encoding R76 with the command length of R75: code, and the total length as a function of the command
(formats `V` and `VB` take it from the count byte). -/
def commandRows : List (Byte × (List Byte → Nat)) :=
  [(0x10, fun _ => 3), (0x11, fun c => 2 + (c.getD 1 0).toNat), (0x12, fun c => 3 + (c.getD 1 0).toNat),
   (0x20, fun _ => 2), (0x21, fun _ => 1),
   (0x30, fun _ => 23), (0x31, fun _ => 33), (0x32, fun _ => 3), (0x33, fun _ => 3), (0x34, fun _ => 2),
   (0x35, fun _ => 1),
   (0x40, fun _ => 7), (0x41, fun _ => 7), (0x42, fun _ => 10), (0x43, fun _ => 18), (0x44, fun _ => 3),
   (0x48, fun _ => 2),
   (0x50, fun _ => 11), (0x60, fun _ => 7), (0x61, fun _ => 1), (0x70, fun _ => 5), (0x71, fun _ => 1)]

/-- A command a row of R76 accepts: its code, and the length its format requires. -/
def Accepted (cmd : List Byte) : Prop := ∃ row ∈ commandRows, cmd.head? = some row.1 ∧ cmd.length = row.2 cmd

/-- The enable of a sensor kind (43 R204). -/
def kindOn (cfg : Config) (kind : Nat) : Bool := [cfg.enAtt, cfg.enBaro, cfg.enBat, cfg.enGps, cfg.enFm].getD kind false

/-- The operations 60_exceptions R254 (d) and (e) answer with ILLEGAL: their unit or sensor kind is not built. -/
def unitAbsent (cfg : Config) : Instr → Bool
  | .rcDec _ => !cfg.enRc
  | .rcEnc _ => !cfg.enRc
  | .rcTous _ => !cfg.enRc
  | .rcToraw _ => !cfg.enRc
  | .rcGet _ => !cfg.enRc
  | .rcStat => !cfg.enRc
  | .tlmSetatt _ _ _ => !cfg.enTlm || !cfg.enAtt
  | .tlmSetbaro _ _ => !cfg.enTlm || !cfg.enBaro
  | .tlmSetbat _ _ _ _ => !cfg.enTlm || !cfg.enBat
  | .tlmSetgps _ _ _ _ _ _ => !cfg.enTlm || !cfg.enGps
  | .tlmSetfm _ _ => !cfg.enTlm || !cfg.enFm
  | .tlmSend kind => !cfg.enTlm || (kind.toNat < 5 && !kindOn cfg kind.toNat)
  | .lsDec _ => !cfg.hasAdj || !cfg.enLs
  | .fmSet _ _ _ _ => !cfg.hasAdj
  | .fmHandle => !cfg.hasAdj
  | .tlmUpdate _ => !cfg.hasAdj || !cfg.enTlm
  | .tlmSendnext => !cfg.hasAdj || !cfg.enTlm
  | .crcUpd _ _ => false
  | .crcBlk _ => false
  | .crcChk _ _ => false
  | .rxByte _ => false
  | .rxRst => false
  | .frameRcChannelsPacked _ _ => false
  | .frameLinkStatistics _ _ => false
  | .frameGps _ _ => false
  | .frameBattery _ _ => false
  | .frameBaroAlt _ _ => false
  | .frameAttitude _ _ => false
  | .frameFlightMode _ _ => false
  | .frameOther _ _ _ => false

/-- `i` is the frame row of type `t` with this payload and last byte (30_encoding R72, opcode_table.json). -/
def FrameRow (i : Instr) (t : Byte) (payload : List Byte) (k : Byte) : Prop :=
  (t = 0x16 ∧ i = .frameRcChannelsPacked payload k) ∨ (t = 0x14 ∧ i = .frameLinkStatistics payload k) ∨
  (t = 0x02 ∧ i = .frameGps payload k) ∨ (t = 0x08 ∧ i = .frameBattery payload k) ∨
  (t = 0x09 ∧ i = .frameBaroAlt payload k) ∨ (t = 0x1E ∧ i = .frameAttitude payload k) ∨
  (t = 0x21 ∧ i = .frameFlightMode payload k) ∨
  (t ∉ [0x16, 0x14, 0x02, 0x08, 0x09, 0x1E, 0x21] ∧ i = .frameOther t payload k)

/-- The reference table of 40_checksum R104, row by row. -/
def crcTable : List Byte :=
  [0x00, 0xD5, 0x7F, 0xAA, 0xFE, 0x2B, 0x81, 0x54, 0x29, 0xFC, 0x56, 0x83, 0xD7, 0x02, 0xA8, 0x7D] ++
  [0x52, 0x87, 0x2D, 0xF8, 0xAC, 0x79, 0xD3, 0x06, 0x7B, 0xAE, 0x04, 0xD1, 0x85, 0x50, 0xFA, 0x2F] ++
  [0xA4, 0x71, 0xDB, 0x0E, 0x5A, 0x8F, 0x25, 0xF0, 0x8D, 0x58, 0xF2, 0x27, 0x73, 0xA6, 0x0C, 0xD9] ++
  [0xF6, 0x23, 0x89, 0x5C, 0x08, 0xDD, 0x77, 0xA2, 0xDF, 0x0A, 0xA0, 0x75, 0x21, 0xF4, 0x5E, 0x8B] ++
  [0x9D, 0x48, 0xE2, 0x37, 0x63, 0xB6, 0x1C, 0xC9, 0xB4, 0x61, 0xCB, 0x1E, 0x4A, 0x9F, 0x35, 0xE0] ++
  [0xCF, 0x1A, 0xB0, 0x65, 0x31, 0xE4, 0x4E, 0x9B, 0xE6, 0x33, 0x99, 0x4C, 0x18, 0xCD, 0x67, 0xB2] ++
  [0x39, 0xEC, 0x46, 0x93, 0xC7, 0x12, 0xB8, 0x6D, 0x10, 0xC5, 0x6F, 0xBA, 0xEE, 0x3B, 0x91, 0x44] ++
  [0x6B, 0xBE, 0x14, 0xC1, 0x95, 0x40, 0xEA, 0x3F, 0x42, 0x97, 0x3D, 0xE8, 0xBC, 0x69, 0xC3, 0x16] ++
  [0xEF, 0x3A, 0x90, 0x45, 0x11, 0xC4, 0x6E, 0xBB, 0xC6, 0x13, 0xB9, 0x6C, 0x38, 0xED, 0x47, 0x92] ++
  [0xBD, 0x68, 0xC2, 0x17, 0x43, 0x96, 0x3C, 0xE9, 0x94, 0x41, 0xEB, 0x3E, 0x6A, 0xBF, 0x15, 0xC0] ++
  [0x4B, 0x9E, 0x34, 0xE1, 0xB5, 0x60, 0xCA, 0x1F, 0x62, 0xB7, 0x1D, 0xC8, 0x9C, 0x49, 0xE3, 0x36] ++
  [0x19, 0xCC, 0x66, 0xB3, 0xE7, 0x32, 0x98, 0x4D, 0x30, 0xE5, 0x4F, 0x9A, 0xCE, 0x1B, 0xB1, 0x64] ++
  [0x72, 0xA7, 0x0D, 0xD8, 0x8C, 0x59, 0xF3, 0x26, 0x5B, 0x8E, 0x24, 0xF1, 0xA5, 0x70, 0xDA, 0x0F] ++
  [0x20, 0xF5, 0x5F, 0x8A, 0xDE, 0x0B, 0xA1, 0x74, 0x09, 0xDC, 0x76, 0xA3, 0xF7, 0x22, 0x88, 0x5D] ++
  [0xD6, 0x03, 0xA9, 0x7C, 0x28, 0xFD, 0x57, 0x82, 0xFF, 0x2A, 0x80, 0x55, 0x01, 0xD4, 0x7E, 0xAB] ++
  [0x84, 0x51, 0xFB, 0x2E, 0x7A, 0xAF, 0x05, 0xD0, 0xAD, 0x78, 0xD2, 0x07, 0x53, 0x86, 0x2C, 0xF9]

/-- The eight rows of the table of 30_encoding R85, for the bytes `p 0 .. p 10`. -/
def eightChannels (p : Nat → Nat) : List Nat :=
  [p 0 ||| (p 1 &&& 0x07) <<< 8,
   p 1 >>> 3 ||| (p 2 &&& 0x3F) <<< 5,
   p 2 >>> 6 ||| p 3 <<< 2 ||| (p 4 &&& 0x01) <<< 10,
   p 4 >>> 1 ||| (p 5 &&& 0x0F) <<< 7,
   p 5 >>> 4 ||| (p 6 &&& 0x7F) <<< 4,
   p 6 >>> 7 ||| p 7 <<< 1 ||| (p 8 &&& 0x03) <<< 9,
   p 8 >>> 2 ||| (p 9 &&& 0x1F) <<< 6,
   p 9 >>> 5 ||| p 10 <<< 3]

/-- The sixteen channel values of a payload by the table of R85: channels 8 to 15 eleven bytes later. -/
def channelTable (p : List Byte) : List Nat :=
  eightChannels (fun i => (p.getD i 0).toNat) ++ eightChannels (fun i => (p.getD (i + 11) 0).toNat)

/-- The state after a decode of these channel values with the draw `f` (10_state R22, R23). -/
def decoded (s : State) (ch : Vector Chan 16) (f : Bool) : State :=
  { s with rcCh := ch, rcValid := true, rcFailsafe := f, draws := s.draws + 1 }

/-- The event byte of a frame that is not routed to RCU (41 R131, 44 R223). -/
def lsEvent (cfg : Config) (t : Byte) (len : Nat) : Byte :=
  if cfg.hasAdj = true ∧ cfg.enLs = true ∧ t = 0x14 ∧ len = 12 then 0x02 else 0x00

/-- Is a frame of this type and length byte routed to RCU (41 R131)? -/
def ToRcu (cfg : Config) (t : Byte) (len : Nat) : Prop := cfg.enRc = true ∧ t = 0x16 ∧ len = 24

/-- `to_us` (42 R161) on integers. -/
def toUsInt (raw : Nat) : Nat := (raw * 62477120195241 + 881 * 10 ^ 14 + 5 * 10 ^ 13) / 10 ^ 14

/-- `to_raw` (42 R164, R165) on integers. -/
def toRawInt (us : Nat) : Nat :=
  if us < 881 then 0
  else if 41826 ≤ us then 65535
  else ((us - 881) * 2 * 10 ^ 14 + 62477120195241) / (2 * 62477120195241)

/-- `att_wrap` (43 R188) in closed form: whole turns taken off until the angle lies within ±1800, both ends kept. -/
def wrapped (d : Int) : Int :=
  if d > 1800 then d - 3600 * ((d - 1800 + 3599) / 3600)
  else if d < -1800 then d + 3600 * ((-1800 - d + 3599) / 3600)
  else d

/-- `att_conv` (43 R187): truncation toward zero, symmetric in sign. -/
def attUnits (d : Int) : Int :=
  if 0 ≤ wrapped d then wrapped d * 1143819 / 65536 else -(-wrapped d * 1143819 / 65536)

/-- `alt_packed` (43 R190). -/
def altCode (a : Int) : Int :=
  if a < -10000 then 0
  else if a > 327655 then 0xFFFE
  else if a < 22768 then a + 10000
  else (a + 5) / 10 + 0x8000

/-- The strings of 43 R203. -/
def modeText : List (List Byte) :=
  [[0x41, 0x43, 0x52, 0x4F], [0x41, 0x43, 0x52, 0x4F], [0x21, 0x46, 0x53, 0x21], [0x52, 0x54, 0x48],
   [0x4D, 0x41, 0x4E, 0x55], [0x53, 0x54, 0x41, 0x42], [0x48, 0x4F, 0x52], [0x41, 0x49, 0x52]]

/-- The frame types of the five kinds (43 R204). -/
def sentType (kind : Nat) : Byte := [0x1E, 0x09, 0x08, 0x02, 0x21].getD kind 0

/-- `payload_ATT`, `payload_BARO`, `payload_BAT`, the GPS payload and `payload_FM` (43 R186, R189, R192, R194, R199). -/
def sentPayload (s : State) : Nat → List Byte
  | 0 => be 2 (attUnits s.attPitch.toInt) ++ be 2 (attUnits s.attRoll.toInt) ++ be 2 (attUnits s.attYaw.toInt)
  | 1 => be 2 (altCode s.baroAlt.toInt) ++ be 2 s.baroVario.toInt
  | 2 =>
    be 2 ((s.batVoltage.toNat + 5) / 10) ++ be 2 ((s.batCurrent.toNat + 5) / 10) ++
      be 3 (min s.batFuel.toNat 0xFFFFFF : Nat) ++ [s.batPercent]
  | 3 =>
    be 4 s.gpsLat.toInt ++ be 4 s.gpsLon.toInt ++ be 2 ((s.gpsSpeed.toNat * 36 + 50) / 100) ++
      be 2 (s.gpsCourse.toNat % 3600 * 10) ++ be 2 (max 0 (min 65535 (s.gpsAlt.toInt / 100 + 1000))) ++ [s.gpsSats]
  | 4 => modeText.getD s.fmId.val [] ++ (if s.fmArmed = s.cfg.fmStarWhen then [0x2A] else []) ++ [0x00]
  | _ => []

/-- Slot `id` matches (44 R227): its channel's raw value lies in `[min, max]`. -/
def SlotMatches (s : State) (id : Fin 8) : Prop :=
  (s.fmSlot[id]).min.toNat ≤ (s.rcCh[(s.fmSlot[id]).channel]).toNat ∧
    (s.rcCh[(s.fmSlot[id]).channel]).toNat ≤ (s.fmSlot[id]).max.toNat

/-- Elapsed time modulo 2^32 = 4294967296 (44 R230, R231). -/
def elapsed (now last : Word) : Int := ((now.toNat : Int) - (last.toNat : Int)) % 4294967296

/-- All sensor kinds, all units and the adjacent units are built (00 R9, the default). -/
def allBuilt (cfg : Config) : Bool :=
  cfg.enRc && cfg.enTlm && cfg.enLs && cfg.enAtt && cfg.enBaro && cfg.enBat && cfg.enGps && cfg.enFm && cfg.hasAdj

/-- One bit of byte `pos` of a byte string flipped. -/
def flipBit (bytes : List Byte) (pos bit : Nat) : List Byte := bytes.modify pos (fun b => b ^^^ BitVec.twoPow 8 bit)

/-- The operations that read and change no state (20_memory R57). -/
def readOnly : Instr → Bool
  | .rcGet _ => true
  | .rcStat => true
  | .rcTous _ => true
  | .rcToraw _ => true
  | .rcEnc _ => true
  | .crcUpd _ _ => true
  | .crcBlk _ => true
  | .crcChk _ _ => true
  | .lsDec _ => true
  | .tlmSend _ => true
  | .fmHandle => true
  | .rxByte _ => false
  | .rxRst => false
  | .rcDec _ => false
  | .tlmSetatt _ _ _ => false
  | .tlmSetbaro _ _ => false
  | .tlmSetbat _ _ _ _ => false
  | .tlmSetgps _ _ _ _ _ _ => false
  | .tlmSetfm _ _ => false
  | .fmSet _ _ _ _ => false
  | .tlmUpdate _ => false
  | .tlmSendnext => false
  | .frameRcChannelsPacked _ _ => false
  | .frameLinkStatistics _ _ => false
  | .frameGps _ _ => false
  | .frameBattery _ _ => false
  | .frameBaroAlt _ _ => false
  | .frameAttitude _ _ => false
  | .frameFlightMode _ _ => false
  | .frameOther _ _ _ => false

/-- The staging registers of one kind, and the flight-mode table and scheduler registers, are the same (10 R20, R33). -/
def SameOutside (s t : State) : Prop :=
  t.cfg = s.cfg ∧ t.attRoll = s.attRoll ∧ t.attPitch = s.attPitch ∧ t.attYaw = s.attYaw ∧ t.baroAlt = s.baroAlt ∧
  t.baroVario = s.baroVario ∧ t.batVoltage = s.batVoltage ∧ t.batCurrent = s.batCurrent ∧ t.batFuel = s.batFuel ∧
  t.batPercent = s.batPercent ∧ t.gpsLat = s.gpsLat ∧ t.gpsLon = s.gpsLon ∧ t.gpsAlt = s.gpsAlt ∧
  t.gpsSpeed = s.gpsSpeed ∧ t.gpsCourse = s.gpsCourse ∧ t.gpsSats = s.gpsSats ∧ t.fmId = s.fmId ∧
  t.fmArmed = s.fmArmed ∧ t.fmSlot = s.fmSlot ∧ t.tlmLast = s.tlmLast ∧ t.tlmIdx = s.tlmIdx

end Sys2Proof.Claims

open Sys2Proof Sys2Proof.Machine Sys2Proof.Claims

/-! ## Encoding, decoding, the step -/

/-- Words written out from 30_encoding R75 and R76, one and more per family, decode to what they stand for. -/
def Obligations.CommandWordsDecode : Prop :=
  (decode [0x10, 0xFF, 0x00]).toOption = some (.crcUpd 0xFF 0x00) ∧
  (decode [0x12, 0x02, 0xAA, 0xBB, 0x3F]).toOption = some (.crcChk [0xAA, 0xBB] 0x3F) ∧
  (decode [0x20, 0xC8]).toOption = some (.rxByte 0xC8) ∧
  (decode [0x32, 0x03, 0xE0]).toOption = some (.rcTous 992) ∧
  (decode [0x40, 0x00, 0x64, 0xFF, 0x38, 0x07, 0x08]).toOption = some (.tlmSetatt 100 (-200) 1800) ∧
  (decode [0x42, 0x06, 0x90, 0x04, 0xD2, 0x00, 0x00, 0x05, 0xDC, 0x57]).toOption =
    some (.tlmSetbat 1680 1234 1500 87) ∧
  (decode [0x60, 0x05, 0x04, 0x03, 0x84, 0x04, 0x4C]).toOption = some (.fmSet 5 4 900 1100) ∧
  (decode [0x70, 0x00, 0x00, 0x01, 0x4A]).toOption = some (.tlmUpdate 330) ∧
  (decodeFrame [0xC8, 0x05, 0x16, 0x01, 0x02, 0x03, 0xDA]).toOption =
    some (.frameRcChannelsPacked [0x01, 0x02, 0x03] 0xDA)

/-- Every well-formed instruction is decoded from its own bytes: no bit of an encoding is dropped (R70, R75, R76). -/
def Obligations.DecodeOfEncodeIsTheInstruction : Prop :=
  ∀ i : Instr, i.wf = true → decodeInput (encodeInput i) = .ok i

/-- Every input that decodes is the encoding of what it decodes to, and that is well formed: no two readings. -/
def Obligations.EncodeOfDecodeIsTheInput : Prop :=
  ∀ (x : Input) (i : Instr), decodeInput x = .ok i → i.wf = true ∧ encodeInput i = x

/-- A command decodes exactly when a row of R76 has its first byte and R75 gives it that length. -/
def Obligations.CommandDecodesExactlyWhenARowAcceptsIt : Prop :=
  ∀ cmd : List Byte, (∃ i, decode cmd = .ok i) ↔ Accepted cmd

/-- 60_exceptions R254: (a), (b), (c) an undecodable command is answered `{0xFF}`; (d), (e) so is an operation whose unit or
sensor kind is not built. Nothing else changes. -/
def Obligations.IllegalCommandsChangeNothing : Prop :=
  (∀ (s : State) (cmd : List Byte), ¬ Accepted cmd → runCommand cmd s = .next (told s [0xFF])) ∧
  (∀ (s : State) (i : Instr), unitAbsent s.cfg i = true → Illegal i s)

/-- A step runs the decoded instruction on the state whose inbox has lost that input (00_scope R13; the inbox is the
model's, log 3). -/
def Obligations.StepRunsTheDecodedInstruction : Prop :=
  ∀ (s : State) (x : Input) (rest : List Input) (i : Instr), s.inbox = x :: rest → decodeInput x = .ok i →
    step s = exec i { s with inbox := rest }

/-- A command, decodable or not, is run by `runCommand`; stream bytes that are no frame go to RX.BYTE one after another; with
no input a step changes nothing; a re-initialisation puts every register to its reset value and leaves the model's own
fields (R81, R257, R280; logs 3, 4, 6, 11). -/
def Obligations.StepOnOtherInputs : Prop :=
  (∀ (s : State) (cmd : List Byte) (rest : List Input), s.inbox = .command cmd :: rest →
    step s = runCommand cmd { s with inbox := rest }) ∧
  (∀ (s : State) (bytes : List Byte) (rest : List Input), s.inbox = .stream bytes :: rest →
    (∀ i, decodeFrame bytes ≠ .ok i) →
    ∃ t, rxFeed bytes { s with inbox := rest } = some t ∧ step s = .next t) ∧
  (∀ s : State, s.inbox = [] → step s = .next s) ∧
  (∀ (s : State) (rest : List Input), s.inbox = .reset :: rest →
    step s = .next { State.resetWith s.cfg with draws := s.draws, inbox := rest, rsps := s.rsps })

/-- Every step answers a next state and keeps the instance's parameters (44 R236 "every operation returns at once", 10 R31). -/
def Obligations.EveryStepAnswersAndKeepsTheParameters : Prop :=
  ∀ s : State, ∃ t, step s = .next t ∧ t.cfg = s.cfg

/-- One operation produces exactly one response with exactly one status: 1, 2 or 3 for RX.BYTE; for every other operation
0xFF exactly when its unit or sensor kind is not built, else 0: operand values are never illegal (30_encoding R77, R79,
60 R259). -/
def Obligations.OneResponsePerOperation : Prop :=
  ∀ (s : State) (i : Instr), i.onWire = false →
    ∃ t status result, exec i s = .next t ∧ t.rsps = s.rsps ++ [status :: result] ∧ t.inbox = s.inbox ∧
      ((∃ b, i = .rxByte b) → status = 0x01 ∨ status = 0x02 ∨ status = 0x03) ∧
      ((∀ b, i ≠ .rxByte b) → status = if unitAbsent s.cfg i then 0xFF else 0x00)

/-- No other operation than RX.BYTE, and no other state than AWAIT_LEN and AWAIT_CRC, raises REJECTED, and each of the two
raises its own cause with the state change R251 lists. -/
def Obligations.RejectedIsRaisedExactlyThere : Prop :=
  (∀ (s t : State) (i : Instr) (rs : List Byte), i.onWire = false → exec i s = .next t →
    t.rsps = s.rsps ++ [0x03 :: rs] →
    ∃ b, i = .rxByte b ∧
      ((s.rxState = .awaitLen ∧ (b.toNat < 2 ∨ 62 < b.toNat) ∧ rs = [0x01] ∧
          t = told { s with rxState := .idle } [0x03, 0x01]) ∨
       (s.rxState = .awaitCrc ∧ b ≠ s.rxCrc ∧ rs = [0x02] ∧
          t = told { s with rxState := .idle, rxCnt := 0 } [0x03, 0x02]))) ∧
  (∀ (s : State) (b : Byte), s.rxState = .awaitLen → (b.toNat < 2 ∨ 62 < b.toNat) →
    exec (.rxByte b) s = .next (told { s with rxState := .idle } [0x03, 0x01])) ∧
  (∀ (s : State) (b : Byte), s.rxState = .awaitCrc → b ≠ s.rxCrc →
    exec (.rxByte b) s = .next (told { s with rxState := .idle, rxCnt := 0 } [0x03, 0x02]))

/-! ## Reset and invariants -/

/-- 70_reset R281: every register at its reset value, for every instance (rx_buf is unspecified there). -/
def Obligations.ResetValues : Prop :=
  (∃ cfg, State.reset = State.resetWith cfg) ∧
  ∀ cfg : Config,
    let s := State.resetWith cfg
    s.cfg = cfg ∧ (∀ k : Fin 16, s.rcCh[k] = cfg.rcInit[k]) ∧ s.rcValid = false ∧ s.rcFailsafe = false ∧
    s.rxState = .idle ∧ s.rxCnt = 0 ∧ s.rxLen = 0 ∧ s.rxType = 0 ∧ s.rxCrc = cfg.crcInit ∧
    s.attRoll = 0 ∧ s.attPitch = 0 ∧ s.attYaw = 0 ∧ s.baroAlt = 0 ∧ s.baroVario = 0 ∧
    s.batVoltage = 0 ∧ s.batCurrent = 0 ∧ s.batFuel = 0 ∧ s.batPercent = 0 ∧
    s.gpsLat = 0 ∧ s.gpsLon = 0 ∧ s.gpsAlt = 0 ∧ s.gpsSpeed = 0 ∧ s.gpsCourse = 0 ∧ s.gpsSats = 0 ∧
    s.fmId = 0 ∧ s.fmArmed = false ∧
    (∀ i : Fin 8, (s.fmSlot[i]).channel = 0 ∧ (s.fmSlot[i]).min = 0xFFFF ∧ (s.fmSlot[i]).max = 0x0000) ∧
    s.tlmLast = 0 ∧ s.tlmIdx = 0

/-- 70_reset R282: the block right after reset as the host sees it, for every instance with every unit built; the five
frames with the CRC parameters of 00_scope R6 (43 R206). -/
def Obligations.ResetAsTheHostSeesIt : Prop :=
  ∀ cfg : Config, allBuilt cfg = true →
    let s := State.resetWith cfg
    exec .rcStat s = .next (told s [0x00, 0x00]) ∧
    (∀ k : Fin 16, exec (.rcGet (BitVec.ofNat 8 k.val)) s = .next (told s (0x00 :: be 2 (cfg.rcInit[k]).toNat))) ∧
    (∀ b, exec (.rxByte b) s = .next (told { s with rxState := if b = 0xC8 then .awaitLen else .idle } [0x01])) ∧
    exec .fmHandle s = .next (told s [0x00, 0x00]) ∧
    (0 < cfg.tlmInterval.toNat → exec (.tlmUpdate 0) s = .next (told s [0x00, 0x00])) ∧
    (cfg.crcPoly = 0xD5 → cfg.crcInit = 0x00 →
      exec (.tlmSend 0) s = .next (told s [0x00, 0xC8, 0x08, 0x1E, 0x00, 0x00, 0x00, 0x00, 0x00, 0x00, 0x30]) ∧
      exec (.tlmSend 1) s = .next (told s [0x00, 0xC8, 0x06, 0x09, 0x27, 0x10, 0x00, 0x00, 0xB3]) ∧
      exec (.tlmSend 2) s = .next (told s
        [0x00, 0xC8, 0x0A, 0x08, 0x00, 0x00, 0x00, 0x00, 0x00, 0x00, 0x00, 0x00, 0x6D]) ∧
      exec (.tlmSend 3) s = .next (told s
        [0x00, 0xC8, 0x11, 0x02, 0x00, 0x00, 0x00, 0x00, 0x00, 0x00, 0x00, 0x00, 0x00, 0x00, 0x00, 0x00, 0x03, 0xE8,
          0x00, 0x07]) ∧
      exec (.tlmSend 4) s = .next (told s
        (if cfg.fmStarWhen then [0x00, 0xC8, 0x07, 0x21, 0x41, 0x43, 0x52, 0x4F, 0x00, 0x80]
         else [0x00, 0xC8, 0x08, 0x21, 0x41, 0x43, 0x52, 0x4F, 0x2A, 0x00, 0x14])))

/-- The invariant holds right after reset, for every instance. -/
def Obligations.InvariantHoldsAfterReset : Prop := ∀ cfg : Config, (State.resetWith cfg).Inv

/-- Every step keeps the invariant: the receiver's registers stand as 10_state R25 to R27 say, with `rx_crc` the checksum
of what has been received, and the channel registers hold `RC_INIT` until the first decode (70 R292). -/
def Obligations.EveryStepKeepsTheInvariant : Prop :=
  ∀ s t : State, s.Inv → step s = .next t → t.Inv

/-! ## CSU -/

/-- CRC.UPD is eight shifts of `crc ^ b`, the polynomial applied when the bit shifted out is 1 (40 R101, R105). -/
def Obligations.CrcUpdIsEightShifts : Prop :=
  ∀ (s : State) (crc b : Byte), Encoded (.crcUpd crc b) [0x10, crc, b] ∧ ∃ r : Nat → Byte, r 0 = crc ^^^ b ∧
    (∀ k < 8, r (k + 1) =
      if (r k).getLsbD 7 then BitVec.ofNat 8 ((r k).toNat <<< 1 &&& 0xFF) ^^^ s.cfg.crcPoly
      else BitVec.ofNat 8 ((r k).toNat <<< 1 &&& 0xFF)) ∧
    exec (.crcUpd crc b) s = .next (told s [0x00, r 8])

/-- With `CRC_POLY` = 0xD5 the step is the lookup of `crc ^ b` in the reference table of 40 R104. -/
def Obligations.CrcUpdIsTheReferenceTable : Prop :=
  ∀ (s : State) (crc b : Byte), s.cfg.crcPoly = 0xD5 →
    exec (.crcUpd crc b) s = .next (told s [0x00, crcTable.getD (crc ^^^ b).toNat 0])

/-- CRC.BLK folds the byte step over the block from `CRC_INIT` (40 R102, R106). The count byte of a command must be the
number of its data bytes. -/
def Obligations.CrcBlkFoldsTheStep : Prop :=
  (∀ (s : State) (d : List Byte),
    exec (.crcBlk d) s = .next (told s [0x00, d.foldl (fun c b => crc8Upd s.cfg.crcPoly c b) s.cfg.crcInit])) ∧
  (∀ d : List Byte, d.length ≤ 255 → decode ([0x11, BitVec.ofNat 8 d.length] ++ d) = .ok (.crcBlk d)) ∧
  (∀ cmd : List Byte, cmd.head? = some 0x11 → cmd.length ≠ 2 + (cmd.getD 1 0).toNat → ∀ j, decode cmd ≠ .ok j)

/-- CRC.CHK answers 1 exactly when the checksum is `e`, that is, with a polynomial that has its lowest term (0xD5 has), when
the checksum of `d ++ {e}` is 0 (40 R107, R108 c). -/
def Obligations.CrcChkTestsTheChecksum : Prop :=
  (∀ (s : State) (d : List Byte) (e : Byte),
    exec (.crcChk d e) s = .next (told s [0x00, if crc8 s.cfg d = e then 0x01 else 0x00]) ∧
    (s.cfg.crcPoly.getLsbD 0 = true → (crc8 s.cfg d = e ↔ crc8 s.cfg (d ++ [e]) = 0))) ∧
  (∀ (d : List Byte) (e : Byte), d.length ≤ 255 →
    decode ([0x12, BitVec.ofNat 8 d.length] ++ d ++ [e]) = .ok (.crcChk d e)) ∧
  (∀ cmd : List Byte, cmd.head? = some 0x12 → cmd.length ≠ 3 + (cmd.getD 1 0).toNat → ∀ j, decode cmd ≠ .ok j)

/-- The byte step is linear (40 R108 d), for every polynomial. -/
def Obligations.CrcStepIsLinear : Prop :=
  ∀ poly c1 c2 b1 b2 : Byte,
    crc8Upd poly (c1 ^^^ c2) (b1 ^^^ b2) = crc8Upd poly c1 b1 ^^^ crc8Upd poly c2 b2

/-- A single flipped bit changes the checksum (40 R108 e), for every polynomial with its lowest term, 0xD5 among them. -/
def Obligations.SingleBitErrorChangesTheChecksum : Prop :=
  ∀ (cfg : Config) (d : List Byte) (pos bit : Nat), cfg.crcPoly.getLsbD 0 = true → pos < d.length → bit < 8 →
    crc8 cfg (flipBit d pos bit) ≠ crc8 cfg d

/-! ## FRX -/

/-- The rows of 41 R122 for `IDLE`, `AWAIT_LEN` and `AWAIT_TYPE`, with the refused length of R125. -/
def Obligations.RxByteHeaderTransitions : Prop :=
  ∀ (s : State) (b : Byte),
    (s.rxState = .idle →
      exec (.rxByte b) s = .next (told { s with rxState := if b = 0xC8 then .awaitLen else .idle } [0x01])) ∧
    (s.rxState = .awaitLen →
      exec (.rxByte b) s = .next
        (if 2 ≤ b.toNat ∧ b.toNat ≤ 62 then told { s with rxLen := b, rxState := .awaitType } [0x01]
         else told { s with rxState := .idle } [0x03, 0x01])) ∧
    (s.rxState = .awaitType →
      exec (.rxByte b) s = .next (told
        { s with
          rxType := b, rxCrc := crc8Upd s.cfg.crcPoly s.cfg.crcInit b, rxCnt := 0
          rxState := if s.rxLen = 2 then .awaitCrc else .payload } [0x01]))

/-- The rows of 41 R122 for `PAYLOAD` (R127): the byte is stored at `rx_cnt`, the checksum and the count go on, and the
last payload byte leads to `AWAIT_CRC`. The premise is the invariant of 10_state R25, kept by every step. -/
def Obligations.RxBytePayloadTransition : Prop :=
  ∀ (s : State) (b : Byte), s.rxState = .payload → s.RxInv →
    s.rxCnt.toNat ≤ 59 ∧
    ∃ buf cnt, buf.toList = s.rxBuf.toList.set s.rxCnt.toNat b ∧ cnt.toNat = s.rxCnt.toNat + 1 ∧
      exec (.rxByte b) s = .next (told
        { s with
          rxBuf := buf, rxCrc := crc8Upd s.cfg.crcPoly s.rxCrc b, rxCnt := cnt
          rxState := if (s.rxCnt.toNat : Int) + 1 < (s.rxLen.toNat : Int) - 2 then .payload else .awaitCrc } [0x01])

/-- 41 R128 and R131: a matching checksum byte emits the frame and returns to `IDLE`; an RC frame of length 24 is routed to
RCU with `EV_RC`, a link-statistics frame of length 12 sets `EV_LS`, every other frame takes the no-op path. The failsafe
flag takes some value (log 7). By the invariant of 10_state R25 the emitted frame has `length == 2 + len(payload)` and
`checksum == CRC8(type ++ payload)`. -/
def Obligations.RxByteChecksumMatches : Prop :=
  ∀ (s : State) (b : Byte), s.rxState = .awaitCrc → b = s.rxCrc →
    let payload := s.rxBuf.toList.take s.rxCnt.toNat
    let t := { s with rxState := .idle, rxCnt := 0 }
    (ToRcu s.cfg s.rxType s.rxLen.toNat → payload.length = 22 →
      ∃ ch f, ch.toList.map BitVec.toNat = channelTable payload ∧
        exec (.rxByte b) s = .next (told (decoded t ch f) ([0x02, 0x01, s.rxLen, s.rxType] ++ payload ++ [b]))) ∧
    (¬ ToRcu s.cfg s.rxType s.rxLen.toNat →
      exec (.rxByte b) s = .next (told t
        ([0x02, lsEvent s.cfg s.rxType s.rxLen.toNat, s.rxLen, s.rxType] ++ payload ++ [b]))) ∧
    (s.RxInv → s.rxLen.toNat = 2 + payload.length ∧ b = crc8 s.cfg (s.rxType :: payload))

/-- RX.RST (41 R135): three registers, nothing else. -/
def Obligations.RxRstRestartsTheReceiver : Prop :=
  ∀ s : State, Encoded .rxRst [0x21] ∧
    exec .rxRst s = .next (told { s with rxState := .idle, rxCnt := 0, rxCrc := s.cfg.crcInit } [0x00])

/-- A frame row's instruction is RX.FEED of the frame's bytes, in every state (30 R81, R70; log 5). -/
def Obligations.FrameRowsAreRxFeed : Prop :=
  ∀ (s : State) (i : Instr) (t : Byte) (payload : List Byte) (k : Byte), FrameRow i t payload k →
    ∃ u, rxFeed ([0xC8, BitVec.ofNat 8 (payload.length + 2), t] ++ payload ++ [k]) s = some u ∧ exec i s = .next u

/-- 41 R132 for every frame row not routed to RCU: from `IDLE` a well-formed frame is answered INCOMPLETE but for its last
byte, which is answered COMPLETE with that frame; nothing outside the receiver changes. -/
def Obligations.WellFormedFrameCompletes : Prop :=
  ∀ (s : State) (i : Instr) (t : Byte) (payload : List Byte), FrameRow i t payload (crc8 s.cfg (t :: payload)) →
    s.rxState = .idle → payload.length ≤ 60 → ¬ ToRcu s.cfg t (payload.length + 2) →
    ∃ buf, buf.toList = payload ++ s.rxBuf.toList.drop payload.length ∧
      exec i s = .next
        { s with
          rxState := .idle, rxLen := BitVec.ofNat 8 (payload.length + 2), rxType := t, rxCnt := 0
          rxCrc := crc8 s.cfg (t :: payload), rxBuf := buf
          rsps := s.rsps ++ List.replicate (payload.length + 3) [0x01] ++
            [[0x02, lsEvent s.cfg t (payload.length + 2), BitVec.ofNat 8 (payload.length + 2), t] ++ payload ++
              [crc8 s.cfg (t :: payload)]] }

/-- The RC-channel frame of the scenario of 41 R137: from `IDLE` a well-formed one of length 24 is routed to RCU, which
decodes all sixteen channels by the table of 30 R85. -/
def Obligations.RcFrameIsDecoded : Prop :=
  ∀ (s : State) (payload : List Byte), s.cfg.enRc = true → s.rxState = .idle → payload.length = 22 →
    ∃ ch f buf, ch.toList.map BitVec.toNat = channelTable payload ∧
      buf.toList = payload ++ s.rxBuf.toList.drop 22 ∧
      exec (.frameRcChannelsPacked payload (crc8 s.cfg (0x16 :: payload))) s = .next
        { decoded s ch f with
          rxState := .idle, rxLen := 24, rxType := 0x16, rxCnt := 0, rxCrc := crc8 s.cfg (0x16 :: payload), rxBuf := buf
          rsps := s.rsps ++ List.replicate 25 [0x01] ++
            [[0x02, 0x01, 0x18, 0x16] ++ payload ++ [crc8 s.cfg (0x16 :: payload)]] }

/-- A frame whose last byte is not its checksum is rejected at that byte, whatever its type; nothing outside the receiver
changes (41 R129, R133 a). -/
def Obligations.CorruptFrameIsRejected : Prop :=
  ∀ (s : State) (i : Instr) (t : Byte) (payload : List Byte) (k : Byte), FrameRow i t payload k →
    s.rxState = .idle → payload.length ≤ 60 → k ≠ crc8 s.cfg (t :: payload) →
    ∃ buf, buf.toList = payload ++ s.rxBuf.toList.drop payload.length ∧
      exec i s = .next
        { s with
          rxState := .idle, rxLen := BitVec.ofNat 8 (payload.length + 2), rxType := t, rxCnt := 0
          rxCrc := crc8 s.cfg (t :: payload), rxBuf := buf
          rsps := s.rsps ++ List.replicate (payload.length + 3) [0x01] ++ [[0x03, 0x02]] }

/-- 41 R133 (a): a frame with one bit of type, payload or checksum flipped is rejected at its last byte, and the well-formed
frame that follows at once is complete. -/
def Obligations.SingleBitCorruptionIsRejectedAndTheNextFrameParsed : Prop :=
  ∀ (s : State) (t t2 : Byte) (p p2 : List Byte) (pos bit : Nat),
    s.cfg.crcPoly.getLsbD 0 = true → s.rxState = .idle → p.length ≤ 60 → p2.length ≤ 60 → pos < p.length + 2 → bit < 8 →
    ∃ u ev, rxFeed (flipBit (wireFrame s.cfg t p) (pos + 2) bit ++ wireFrame s.cfg t2 p2) s = some u ∧
      u.rxState = .idle ∧
      u.rsps = s.rsps ++ List.replicate (p.length + 3) [0x01] ++ [[0x03, 0x02]] ++
        List.replicate (p2.length + 3) [0x01] ++
        [[0x02, ev, BitVec.ofNat 8 (p2.length + 2), t2] ++ p2 ++ [crc8 s.cfg (t2 :: p2)]]

/-- 41 R130: every COMPLETE and every REJECTED leaves the receiver in `IDLE` with `rx_cnt` 0 (the premise is the invariant of
10_state R25), and from `IDLE` the responses to all later bytes are a function of those bytes alone (and of the instance),
whatever the other registers hold. -/
def Obligations.ReceiverForgetsEarlierFrames : Prop :=
  (∀ (s : State) (b : Byte), s.RxInv →
    ∃ t status rs, exec (.rxByte b) s = .next t ∧ t.rsps = s.rsps ++ [status :: rs] ∧
      (status = 0x02 ∨ status = 0x03 → t.rxState = .idle ∧ t.rxCnt = 0)) ∧
  ∀ (s1 s2 : State) (bytes : List Byte), s1.rxState = .idle → s2.rxState = .idle → s1.cfg = s2.cfg →
    ∃ u1 u2 rs, rxFeed bytes s1 = some u1 ∧ rxFeed bytes s2 = some u2 ∧
      u1.rsps = s1.rsps ++ rs ∧ u2.rsps = s2.rsps ++ rs

/-- 41 R133 (b), 70 R294: from any point inside a frame, any 63 bytes bring the receiver through `IDLE`. -/
def Obligations.ReceiverIsIdleWithinSixtyThreeBytes : Prop :=
  ∀ (s : State) (bytes : List Byte), s.RxInv → bytes.length = 63 →
    ∃ n u, n ≤ 63 ∧ rxFeed (bytes.take n) s = some u ∧ u.rxState = .idle

/-- 41 R132: a well-formed frame of any type and length, fed to the receiver in `IDLE`: the first `L + 1` responses are
INCOMPLETE, the last is COMPLETE with that frame, and the receiver is in `IDLE` again. -/
def Obligations.AnyWellFormedFrameEndsInComplete : Prop :=
  ∀ (s : State) (t : Byte) (payload : List Byte), s.rxState = .idle → payload.length ≤ 60 →
    ∃ u ev, rxFeed (wireFrame s.cfg t payload) s = some u ∧ u.rxState = .idle ∧
      u.rsps = s.rsps ++ List.replicate (payload.length + 3) [0x01] ++
        [[0x02, ev, BitVec.ofNat 8 (payload.length + 2), t] ++ payload ++ [crc8 s.cfg (t :: payload)]]

/-! ## RCU -/

/-- RC.DEC (42 R151): all sixteen channels together, by the byte table of 30 R85; `rc_valid` is set, `rc_failsafe` takes some
value (log 7); the 32 result bytes are the channels. -/
def Obligations.RcDecLoadsTheChannels : Prop :=
  ∀ (s : State) (p : List Byte), p.length = 22 →
    Encoded (.rcDec p) ([0x30] ++ p) ∧ (s.cfg.enRc = false → Illegal (.rcDec p) s) ∧
    (s.cfg.enRc = true → ∃ ch f, ch.toList.map BitVec.toNat = channelTable p ∧
      exec (.rcDec p) s = .next (told (decoded s ch f) (0x00 :: (channelTable p).flatMap fun v => be 2 v)))

/-- RC.ENC (42 R153, R155): 22 bytes in which bit `11k + j` is bit `j` of channel value `k`; bits 15:11 are dropped. -/
def Obligations.RcEncLaysOutElevenBitFields : Prop :=
  ∀ (s : State) (c : List Half), c.length = 16 →
    Encoded (.rcEnc c) ([0x31] ++ c.flatMap fun v => be 2 v.toNat) ∧ (s.cfg.enRc = false → Illegal (.rcEnc c) s) ∧
    (s.cfg.enRc = true → ∃ p : List Byte, p.length = 22 ∧ exec (.rcEnc c) s = .next (told s (0x00 :: p)) ∧
      ∀ k < 16, ∀ j < 11, (p.getD ((11 * k + j) / 8) 0).getLsbD ((11 * k + j) % 8) = (c.getD k 0).getLsbD j)

/-- 42 R154: packing and unpacking undo each other, (a) and (c) with every 16-bit value, (b) on every payload. -/
def Obligations.PackAndUnpackRoundTrip : Prop :=
  (∀ (c : List Half), c.length = 16 → ∀ k : Fin 16, (unpack (pack c))[k] = (c.getD k.val 0).setWidth 11) ∧
  (∀ (p : List Byte), p.length = 22 → pack ((unpack p).toList.map fun v => v.setWidth 16) = p)

/-- RC.TOUS (42 R160, R161): the exact rational formula; every result fits 16 bits; monotonic, and not injective. -/
def Obligations.RcTousConverts : Prop :=
  toUsInt 171 = toUsInt 172 ∧ (∀ a b : Nat, a ≤ b → toUsInt a ≤ toUsInt b) ∧
  ∀ (s : State) (raw : Half), toUsInt raw.toNat < 65536 ∧
    Encoded (.rcTous raw) ([0x32] ++ be 2 raw.toNat) ∧ (s.cfg.enRc = false → Illegal (.rcTous raw) s) ∧
    (s.cfg.enRc = true → exec (.rcTous raw) s = .next (told s (0x00 :: be 2 (toUsInt raw.toNat))))

/-- RC.TORAW (42 R163, R164, R165): the exact rational formula, saturated below 881 and from 41826 up. -/
def Obligations.RcTorawConverts : Prop :=
  ∀ (s : State) (us : Half), toRawInt us.toNat < 65536 ∧
    Encoded (.rcToraw us) ([0x33] ++ be 2 us.toNat) ∧ (s.cfg.enRc = false → Illegal (.rcToraw us) s) ∧
    (s.cfg.enRc = true → exec (.rcToraw us) s = .next (told s (0x00 :: be 2 (toRawInt us.toNat))))

/-- The multiplier-only forms equal `to_us` and `to_raw` on their ranges, and the first one not beyond (42 R162; R166, last
sentence). -/
def Obligations.MultiplierForms : Prop :=
  (∀ raw : Half, raw.toNat ≤ 2047 → (toUs raw).toNat = (raw.toNat * 40945 + 881 <<< 16 + 32768) >>> 16) ∧
  (∃ raw : Half, 2047 < raw.toNat ∧ (toUs raw).toNat ≠ (raw.toNat * 40945 + 881 <<< 16 + 32768) >>> 16) ∧
  (∀ raw : Half, (toUs raw).toNat = (raw.toNat * 2683371880 + 881 <<< 32 + 1 <<< 31) >>> 32) ∧
  (∀ raw : Half, (toUs raw).toNat = (raw.toNat * 2048 + 1639) / 3278 + 881) ∧
  (∀ us : Half, 881 ≤ us.toNat → (toRaw us).toNat = min (((us.toNat - 881) * 1639 + 512) >>> 10) 65535)

/-- 42 R167: `|toRaw(toMicroseconds(raw)) − raw| <= 1` for every channel value, and the other direction is exact on the
nominal range. -/
def Obligations.UnitConversionRoundTrip : Prop :=
  (∀ raw : Half, raw.toNat ≤ 2047 →
    (toRaw (toUs raw)).toNat ≤ raw.toNat + 1 ∧ raw.toNat ≤ (toRaw (toUs raw)).toNat + 1) ∧
  (∀ us : Half, 988 ≤ us.toNat → us.toNat ≤ 2012 → toUs (toRaw us) = us)

/-- RC.GET (42 R170): the channel, zero-extended; above 15 the sentinel 0. -/
def Obligations.RcGetReadsAChannel : Prop :=
  ∀ (s : State) (index : Byte),
    Encoded (.rcGet index) [0x34, index] ∧ (s.cfg.enRc = false → Illegal (.rcGet index) s) ∧
    (s.cfg.enRc = true →
      (∀ h : index.toNat < 16, exec (.rcGet index) s = .next (told s (0x00 :: be 2 (s.rcCh[index.toNat]).toNat))) ∧
      (15 < index.toNat → exec (.rcGet index) s = .next (told s [0x00, 0x00, 0x00])))

/-- RC.STAT (42 R172, 10 R31): bit 0 is `rc_valid`, bit 1 `rc_failsafe`, bits 7:2 are 0. -/
def Obligations.RcStatReadsTheFlags : Prop :=
  ∀ s : State, Encoded .rcStat [0x35] ∧ (s.cfg.enRc = false → Illegal .rcStat s) ∧
    (s.cfg.enRc = true → ∃ v : Byte, exec .rcStat s = .next (told s [0x00, v]) ∧
      v.getLsbD 0 = s.rcValid ∧ v.getLsbD 1 = s.rcFailsafe ∧ v.toNat < 4)

/-- 10 R22, 00 R15: the channel registers and flags are written only by RC.DEC and by a COMPLETE step of RX.BYTE that
answers `EV_RC`; every other operation leaves them. -/
def Obligations.ChannelsAreWrittenOnlyByADecode : Prop :=
  ∀ (s t : State) (i : Instr), i.onWire = false → exec i s = .next t →
    (t.rcCh = s.rcCh ∧ t.rcValid = s.rcValid ∧ t.rcFailsafe = s.rcFailsafe ∧ t.draws = s.draws) ∨
    (t.rcValid = true ∧ t.draws = s.draws + 1 ∧
      ((∃ p, i = .rcDec p) ∨ (∃ b rs, i = .rxByte b ∧ t.rsps = s.rsps ++ [0x02 :: 0x01 :: rs])))

/-- 10 R23: once set, `rc_valid` stays 1 until reset: no step clears it but a re-initialisation. -/
def Obligations.ValidStaysSetUntilReset : Prop :=
  ∀ s t : State, s.rcValid = true → s.inbox.head? ≠ some .reset → step s = .next t → t.rcValid = true

/-! ## TFE -/

/-- TLM.SETATT (43 R182, R205): the operands are stored bit for bit, nothing else changes. -/
def Obligations.TlmSetattStagesTheAttitude : Prop :=
  ∀ (s : State) (roll pitch yaw : Half),
    Encoded (.tlmSetatt roll pitch yaw) ([0x40] ++ be 2 roll.toInt ++ be 2 pitch.toInt ++ be 2 yaw.toInt) ∧
    (s.cfg.enTlm = false ∨ s.cfg.enAtt = false → Illegal (.tlmSetatt roll pitch yaw) s) ∧
    (s.cfg.enTlm = true → s.cfg.enAtt = true → exec (.tlmSetatt roll pitch yaw) s =
      .next (told { s with attRoll := roll, attPitch := pitch, attYaw := yaw } [0x00]))

/-- TLM.SETBARO (43 R183, R205). -/
def Obligations.TlmSetbaroStagesTheAltitude : Prop :=
  ∀ (s : State) (alt : Word) (vario : Half),
    Encoded (.tlmSetbaro alt vario) ([0x41] ++ be 4 alt.toInt ++ be 2 vario.toInt) ∧
    (s.cfg.enTlm = false ∨ s.cfg.enBaro = false → Illegal (.tlmSetbaro alt vario) s) ∧
    (s.cfg.enTlm = true → s.cfg.enBaro = true → exec (.tlmSetbaro alt vario) s =
      .next (told { s with baroAlt := alt, baroVario := vario } [0x00]))

/-- TLM.SETBAT (43 R184, R205). -/
def Obligations.TlmSetbatStagesTheBattery : Prop :=
  ∀ (s : State) (voltage current : Half) (fuel : Word) (percent : Byte),
    Encoded (.tlmSetbat voltage current fuel percent)
      ([0x42] ++ be 2 voltage.toNat ++ be 2 current.toNat ++ be 4 fuel.toNat ++ [percent]) ∧
    (s.cfg.enTlm = false ∨ s.cfg.enBat = false → Illegal (.tlmSetbat voltage current fuel percent) s) ∧
    (s.cfg.enTlm = true → s.cfg.enBat = true → exec (.tlmSetbat voltage current fuel percent) s =
      .next (told
        { s with batVoltage := voltage, batCurrent := current, batFuel := fuel, batPercent := percent } [0x00]))

/-- TLM.SETGPS (43 R185, R205). -/
def Obligations.TlmSetgpsStagesThePosition : Prop :=
  ∀ (s : State) (lat lon alt : Word) (speed course : Half) (sats : Byte),
    Encoded (.tlmSetgps lat lon alt speed course sats)
      ([0x43] ++ be 4 lat.toInt ++ be 4 lon.toInt ++ be 4 alt.toInt ++ be 2 speed.toNat ++ be 2 course.toNat ++ [sats]) ∧
    (s.cfg.enTlm = false ∨ s.cfg.enGps = false → Illegal (.tlmSetgps lat lon alt speed course sats) s) ∧
    (s.cfg.enTlm = true → s.cfg.enGps = true → exec (.tlmSetgps lat lon alt speed course sats) s =
      .next (told
        { s with gpsLat := lat, gpsLon := lon, gpsAlt := alt, gpsSpeed := speed, gpsCourse := course, gpsSats := sats }
        [0x00]))

/-- TLM.SETFM (43 R202): below `FM_COUNT` both registers, true; else nothing staged, false. -/
def Obligations.TlmSetfmStagesTheMode : Prop :=
  ∀ (s : State) (id armed : Byte),
    Encoded (.tlmSetfm id armed) [0x44, id, armed] ∧
    (s.cfg.enTlm = false ∨ s.cfg.enFm = false → Illegal (.tlmSetfm id armed) s) ∧
    (s.cfg.enTlm = true → s.cfg.enFm = true →
      (∀ h : id.toNat < 8, exec (.tlmSetfm id armed) s =
        .next (told { s with fmId := ⟨id.toNat, h⟩, fmArmed := if armed = 0 then false else true } [0x00, 0x01])) ∧
      (8 ≤ id.toNat → exec (.tlmSetfm id armed) s = .next (told s [0x00, 0x00])))

/-- TLM.SEND 0 (43 R186, R187, R188): pitch, roll, yaw in units of 1/10000 rad, each within ±31415. -/
def Obligations.TlmSendAttitude : Prop :=
  (∀ s : State, s.cfg.enTlm = true → s.cfg.enAtt = true →
    exec (.tlmSend 0) s = .next (told s (0x00 :: wireFrame s.cfg 0x1E
      (be 2 (attUnits s.attPitch.toInt) ++ be 2 (attUnits s.attRoll.toInt) ++ be 2 (attUnits s.attYaw.toInt))))) ∧
  (∀ d : Half, -31415 ≤ attUnits d.toInt ∧ attUnits d.toInt ≤ 31415)

/-- TLM.SEND 1 (43 R189, R190): packed altitude, vertical speed unchanged; the codes 0xFFFF and 0x8000..0x88E4 never occur. -/
def Obligations.TlmSendBaro : Prop :=
  ∀ s : State, s.cfg.enTlm = true → s.cfg.enBaro = true →
    exec (.tlmSend 1) s = .next (told s (0x00 :: wireFrame s.cfg 0x09
      (be 2 (altCode s.baroAlt.toInt) ++ be 2 s.baroVario.toInt))) ∧
    0 ≤ altCode s.baroAlt.toInt ∧ altCode s.baroAlt.toInt < 0xFFFF ∧
    ¬ (0x8000 ≤ altCode s.baroAlt.toInt ∧ altCode s.baroAlt.toInt ≤ 0x88E4)

/-- TLM.SEND (43 R206): the frame of the kind, built from its staging registers, in the five cases; above 4 an empty result;
ILLEGAL when the kind's enable or the unit's is 0. `sentPayload` writes out each layout: battery in tenths rounded half up,
capacity saturated at 24 bits (R192, R193); position, speed, heading, altitude (R194, R195); the mode's text, `*` exactly
when `fm_armed = FM_STAR_WHEN`, a zero byte, for both values of that open parameter (R199, R203). -/
def Obligations.TlmSendOfEveryKind : Prop :=
  ∀ (s : State) (kind : Byte),
    Encoded (.tlmSend kind) [0x48, kind] ∧
    (s.cfg.enTlm = false ∨ (kind.toNat < 5 ∧ kindOn s.cfg kind.toNat = false) → Illegal (.tlmSend kind) s) ∧
    (s.cfg.enTlm = true → 4 < kind.toNat → exec (.tlmSend kind) s = .next (told s [0x00])) ∧
    (s.cfg.enTlm = true → kind.toNat < 5 → kindOn s.cfg kind.toNat = true →
      exec (.tlmSend kind) s =
        .next (told s (0x00 :: wireFrame s.cfg (sentType kind.toNat) (sentPayload s kind.toNat))))

/-- 43 R208: every frame TLM.SEND returns has a length byte between 6 and 17 and, fed to the receiver in `IDLE`, is complete
with the same type and payload and `ev` = 0, changing nothing outside the receiver. -/
def Obligations.SentFramesLoopBack : Prop :=
  ∀ (s : State) (k : Fin 5), s.cfg.enTlm = true → kindOn s.cfg k.val = true → s.rxState = .idle →
    ∃ (len type crc : Byte) (payload : List Byte) (u : State),
      len.toNat = payload.length + 2 ∧ 6 ≤ len.toNat ∧ len.toNat ≤ 17 ∧ crc = crc8 s.cfg (type :: payload) ∧
      exec (.tlmSend (BitVec.ofNat 8 k.val)) s = .next (told s (0x00 :: ([0xC8, len, type] ++ payload ++ [crc]))) ∧
      rxFeed ([0xC8, len, type] ++ payload ++ [crc]) s = some u ∧
      u.rsps = s.rsps ++ List.replicate (payload.length + 3) [0x01] ++ [[0x02, 0x00, len, type] ++ payload ++ [crc]] ∧
      u.rxState = .idle ∧ u.rcCh = s.rcCh ∧ u.rcValid = s.rcValid ∧ u.rcFailsafe = s.rcFailsafe ∧ SameOutside s u

/-! ## Adjacent units -/

/-- LS.DEC (44 R222): the ten fields in payload order, as received; nothing is kept. -/
def Obligations.LsDecReturnsTheFields : Prop :=
  ∀ (s : State) (p : List Byte), p.length = 10 →
    Encoded (.lsDec p) ([0x50] ++ p) ∧ (s.cfg.enLs = false ∨ s.cfg.hasAdj = false → Illegal (.lsDec p) s) ∧
    (s.cfg.hasAdj = true → s.cfg.enLs = true → exec (.lsDec p) s = .next (told s (0x00 :: p)))

/-- FM.SET (44 R226): one slot on success; false and the table unchanged for `id >= 8` or `channel > 15`. -/
def Obligations.FmSetConfiguresASlot : Prop :=
  ∀ (s : State) (id channel : Byte) (min max : Half),
    Encoded (.fmSet id channel min max) ([0x60, id, channel] ++ be 2 min.toNat ++ be 2 max.toNat) ∧
    (s.cfg.hasAdj = false → Illegal (.fmSet id channel min max) s) ∧
    (s.cfg.hasAdj = true →
      (∀ (hi : id.toNat < 8) (hc : channel.toNat < 16), ∃ table : Vector FmSlot 8,
        table[id.toNat] = { channel := ⟨channel.toNat, hc⟩, min := min, max := max } ∧
        (∀ j : Fin 8, j.val ≠ id.toNat → table[j] = s.fmSlot[j]) ∧
        exec (.fmSet id channel min max) s = .next (told { s with fmSlot := table } [0x00, 0x01])) ∧
      (8 ≤ id.toNat ∨ 15 < channel.toNat → exec (.fmSet id channel min max) s = .next (told s [0x00, 0x00])))

/-- FM.HANDLE (44 R227): the first identifier whose slot matches, or none; the first match wins. -/
def Obligations.FmHandleFirstMatchWins : Prop :=
  ∀ s : State, Encoded .fmHandle [0x61] ∧ (s.cfg.hasAdj = false → Illegal .fmHandle s) ∧
    (s.cfg.hasAdj = true →
      (∀ id : Fin 8, SlotMatches s id → (∀ j : Fin 8, j < id → ¬ SlotMatches s j) →
        exec .fmHandle s = .next (told s [0x00, 0x01, BitVec.ofNat 8 id.val])) ∧
      ((∀ id : Fin 8, ¬ SlotMatches s id) → exec .fmHandle s = .next (told s [0x00, 0x00])))

/-- TLM.UPDATE (44 R231): true exactly when the interval has elapsed modulo 2^32, and only then `tlm_last` moves. -/
def Obligations.TlmUpdateComparesElapsedTime : Prop :=
  ∀ (s : State) (now : Word),
    Encoded (.tlmUpdate now) ([0x70] ++ be 4 now.toNat) ∧
    (s.cfg.enTlm = false ∨ s.cfg.hasAdj = false → Illegal (.tlmUpdate now) s) ∧
    (s.cfg.enTlm = true → s.cfg.hasAdj = true →
      exec (.tlmUpdate now) s = .next
        (if (s.cfg.tlmInterval.toNat : Int) ≤ elapsed now s.tlmLast then told { s with tlmLast := now } [0x00, 0x01]
         else told s [0x00, 0x00]))

/-- The call that crosses the interval returns true, exactly once, after any number of calls inside it (44 R231, DOC0 §8). -/
def Obligations.SchedulerIsTrueOncePerInterval : Prop :=
  ∀ (s : State) (early : List Word) (now : Word), s.cfg.enTlm = true → s.cfg.hasAdj = true →
    (∀ n ∈ early, elapsed n s.tlmLast < (s.cfg.tlmInterval.toNat : Int)) →
    (s.cfg.tlmInterval.toNat : Int) ≤ elapsed now s.tlmLast →
    runAll ((early ++ [now]).map Instr.tlmUpdate) s =
      some { s with tlmLast := now, rsps := s.rsps ++ early.map (fun _ => [0x00, 0x00]) ++ [[0x00, 0x01]] }

/-- TLM.SENDNEXT (44 R233): the first enabled kind from `tlm_idx` on is sent, with the frame TLM.SEND of that kind returns,
and `tlm_idx` moves behind it; with no kind enabled the result is empty. -/
def Obligations.TlmSendnextSendsTheNextEnabledKind : Prop :=
  ∀ s : State, Encoded .tlmSendnext [0x71] ∧
    (s.cfg.enTlm = false ∨ s.cfg.hasAdj = false → Illegal .tlmSendnext s) ∧
    (s.cfg.enTlm = true → s.cfg.hasAdj = true →
      (∀ j : Nat, j < 5 → kindOn s.cfg ((s.tlmIdx.val + j) % 5) = true →
        (∀ i < j, kindOn s.cfg ((s.tlmIdx.val + i) % 5) = false) →
        ∃ frame next, next.val = (s.tlmIdx.val + j + 1) % 5 ∧
          exec (.tlmSend (BitVec.ofNat 8 ((s.tlmIdx.val + j) % 5))) s = .next (told s (0x00 :: frame)) ∧
          exec .tlmSendnext s = .next (told { s with tlmIdx := next } (0x00 :: frame))) ∧
      ((∀ k < 5, kindOn s.cfg k = false) → exec .tlmSendnext s = .next (told s [0x00])))

/-! ## The whole machine -/

/-- 20_memory R57: the read operations change no state; TLM.SEND and FM.HANDLE neither. -/
def Obligations.ReadOperationsChangeNoState : Prop :=
  ∀ (s : State) (i : Instr), readOnly i = true → ∃ bytes, exec i s = .next (told s bytes)

/-- The receiver's operations touch no staging register, no slot and no scheduler register, whatever the bytes (00 R15,
60 R252). -/
def Obligations.ReceiverTouchesNoOtherUnit : Prop :=
  ∀ (s t : State) (i : Instr), (i = .rxRst ∨ (∃ b, i = .rxByte b) ∨ i.onWire = true) → exec i s = .next t →
    SameOutside s t ∧ (i = .rxRst → t.rcCh = s.rcCh ∧ t.rcValid = s.rcValid ∧ t.rcFailsafe = s.rcFailsafe)
end

