-- ==== Sys2Proof/Laws/Operands.lean ====
section
/-! SUPPORT. What the operand forms do: lengths, big-endian and little-endian assembly undone by reading. -/

namespace Sys2Proof.Machine

@[simp] theorem be2_length (v : Half) : (be2 v).length = 2 := rfl
@[simp] theorem be3_length (v : BitVec 24) : (be3 v).length = 3 := rfl
@[simp] theorem be4_length (v : Word) : (be4 v).length = 4 := rfl

@[simp] theorem be2s_length (vs : List Half) : (be2s vs).length = 2 * vs.length := by
  induction vs with
  | nil => rfl
  | cons v vs ih => simp [be2s, ih]; omega

@[simp] theorem leBytes_length (n v : Nat) : (leBytes n v).length = n := by
  induction n generalizing v with
  | zero => rfl
  | succ n ih => simp [leBytes, ih]

theorem byteAt_cons_zero (b : Byte) (bs : List Byte) : byteAt (b :: bs) 0 = b := rfl
theorem byteAt_cons_succ (b : Byte) (bs : List Byte) (o : Nat) : byteAt (b :: bs) (o + 1) = byteAt bs o := rfl

theorem halfAt_cons_succ (b : Byte) (bs : List Byte) (o : Nat) : halfAt (b :: bs) (o + 1) = halfAt bs o := rfl
theorem wordAt_cons_succ (b : Byte) (bs : List Byte) (o : Nat) : wordAt (b :: bs) (o + 1) = wordAt bs o := rfl

theorem be2_append (v : Half) (bs : List Byte) :
    be2 v ++ bs = v.extractLsb' 8 8 :: v.extractLsb' 0 8 :: bs := rfl

theorem be4_append (v : Word) (bs : List Byte) :
    be4 v ++ bs =
      v.extractLsb' 24 8 :: v.extractLsb' 16 8 :: v.extractLsb' 8 8 :: v.extractLsb' 0 8 :: bs := rfl

/-- The two bytes of a 16-bit value, put together again, are the value. -/
theorem half_of_bytes (v : Half) : (v.extractLsb' 8 8 ++ v.extractLsb' 0 8 : BitVec 16) = v := by
  ext i hi
  simp only [BitVec.getElem_append, BitVec.getElem_extractLsb']
  split <;> rename_i h
  · simp [BitVec.getLsbD_eq_getElem (show i < 16 by omega)]
  · rw [show 8 + (i - 8) = i by omega, BitVec.getLsbD_eq_getElem]

/-- A big-endian 16-bit operand read where it was written (30_encoding R75). -/
theorem halfAt_be2 (v : Half) (bs : List Byte) : halfAt (be2 v ++ bs) 0 = v := half_of_bytes v

/-- The four bytes of a 32-bit value, put together again, are the value. -/
theorem word_of_bytes (v : Word) :
    ((v.extractLsb' 24 8 ++ v.extractLsb' 16 8 : BitVec 16) ++ (v.extractLsb' 8 8 ++ v.extractLsb' 0 8 : BitVec 16)
      : BitVec 32) = v := by
  ext i hi
  simp only [BitVec.getElem_append, BitVec.getElem_extractLsb']
  split
  · split
    · simp [BitVec.getLsbD_eq_getElem hi]
    · rw [show 8 + (i - 8) = i by omega, BitVec.getLsbD_eq_getElem]
  · split
    · rw [show 16 + (i - 16) = i by omega, BitVec.getLsbD_eq_getElem]
    · rw [show 24 + (i - 16 - 8) = i by omega, BitVec.getLsbD_eq_getElem]

/-- A big-endian 32-bit operand read where it was written (30_encoding R75). -/
theorem wordAt_be4 (v : Word) (bs : List Byte) : wordAt (be4 v ++ bs) 0 = v := word_of_bytes v

theorem leNat_lt (bs : List Byte) : leNat bs < 256 ^ bs.length := by
  induction bs with
  | nil => simp [leNat]
  | cons b bs ih =>
    have := b.isLt
    simp only [leNat, List.length_cons, Nat.pow_succ]
    omega

/-- The bytes laid out from an integer stand for its low part (20_memory R51). -/
theorem leNat_leBytes (n v : Nat) : leNat (leBytes n v) = v % 256 ^ n := by
  induction n generalizing v with
  | zero => simp [leBytes, leNat, Nat.mod_one]
  | succ n ih =>
    simp only [leBytes, leNat, ih, BitVec.toNat_ofNat]
    rw [show 256 ^ (n + 1) = 256 * 256 ^ n by rw [Nat.pow_succ, Nat.mul_comm], Nat.mod_mul]

/-- Laying out the integer of a byte string gives the byte string back. -/
theorem leBytes_leNat (bs : List Byte) : leBytes bs.length (leNat bs) = bs := by
  induction bs with
  | nil => rfl
  | cons b bs ih =>
    have hb := b.isLt
    simp only [List.length_cons, leBytes, leNat]
    rw [show (b.toNat + 256 * leNat bs) / 256 = leNat bs by omega, ih]
    congr 1
    apply BitVec.eq_of_toNat_eq
    simp only [BitVec.toNat_ofNat]
    omega

end Sys2Proof.Machine
end

