-- ==== Sys2Proof/Laws/Convert.lean ====
section
/-! SUPPORT. What packing and unpacking the channels do, bit by bit (42 R150, R153). -/

namespace Sys2Proof.Machine

/-- Bit `i` of the little-endian integer is bit `i mod 8` of byte `i div 8` (20_memory R51). -/
theorem leNat_testBit (p : List Byte) (i : Nat) : (leNat p).testBit i = (p.getD (i / 8) 0).getLsbD (i % 8) := by
  induction p generalizing i with
  | nil => simp [leNat]
  | cons b p ih =>
    have e : leNat (b :: p) = 2 ^ 8 * leNat p + b.toNat := by simp [leNat]; omega
    rw [e, Nat.testBit_two_pow_mul_add _ b.isLt]
    by_cases h : i < 8
    · rw [if_pos h, Nat.div_eq_of_lt h, Nat.mod_eq_of_lt h]; rfl
    · rw [if_neg h, ih, show i / 8 = (i - 8) / 8 + 1 by omega, show (i - 8) % 8 = i % 8 by omega]; rfl

/-- Bit `j` of channel `k` is bit `11 k + j` of the payload (R150). -/
theorem unpack_testBit (p : List Byte) (k : Fin 16) (j : Nat) (hj : j < 11) : ((unpack p)[k]).toNat.testBit j = (p.getD ((11 * k.val + j) / 8) 0).getLsbD ((11 * k.val + j) % 8) := by
  rw [← leNat_testBit]
  simp only [unpack, Fin.getElem_fin, Vector.getElem_ofFn, BitVec.toNat_ofNat]
  rw [Nat.testBit_mod_two_pow, Nat.testBit_shiftRight]; simp [hj]

/-- Bit `11 k + j` of the packed integer is bit `j` of value `k` (R153). -/
theorem packNat_testBit (c : List Half) (k j : Nat) (hj : j < 11) : (packNat c).testBit (11 * k + j) = (c.getD k 0).getLsbD j := by
  induction c generalizing k with
  | nil => simp [packNat]
  | cons x c ih =>
    have e : packNat (x :: c) = 2 ^ 11 * packNat c + x.toNat % 2048 := by simp [packNat]; omega
    rw [e, Nat.testBit_two_pow_mul_add _ (show x.toNat % 2048 < 2^11 by omega)]
    cases k with
    | zero => rw [if_pos (by omega), show x.toNat % 2048 = x.toNat % 2^11 from rfl, Nat.testBit_mod_two_pow]; simp [hj]; rfl
    | succ k => rw [if_neg (by omega), show 11 * (k+1) + j - 11 = 11 * k + j by omega, ih]; rfl

theorem packNat_lt (c : List Half) : packNat c < 2048 ^ c.length := by
  induction c with
  | nil => simp [packNat]
  | cons x c ih => simp only [packNat, List.length_cons, Nat.pow_succ]; omega

/-- Bit `i` of the 22 packed bytes is bit `i` of the packed integer (R153). -/
theorem pack_getLsbD (c : List Half) (i : Nat) (hi : i < 176) : ((pack c).getD (i / 8) 0).getLsbD (i % 8) = (packNat c).testBit i := by
  rw [← leNat_testBit, pack, leNat_leBytes, show (256 ^ 22 : Nat) = 2 ^ 176 by norm_num, Nat.testBit_mod_two_pow]; simp [hi]

end Sys2Proof.Machine
end

