-- ==== Sys2Proof/Laws/Crc.lean ====
section
/-! SUPPORT. What the checksum functions do: the loop over an appended string (40_checksum R103) and one bit of the step. -/

namespace Sys2Proof.Machine

@[simp] theorem crc8Run_nil (poly c : Byte) : crc8Run poly c [] = c := rfl
@[simp] theorem crc8Run_cons (poly c b : Byte) (bs : List Byte) :
    crc8Run poly c (b :: bs) = crc8Run poly (crc8Upd poly c b) bs := rfl

/-- The loop continues over what is appended (R103). -/
theorem crc8Run_append (poly c : Byte) (s t : List Byte) :
    crc8Run poly c (s ++ t) = crc8Run poly (crc8Run poly c s) t := by
  induction s generalizing c with
  | nil => rfl
  | cons b s ih => simp [ih]

/-- With no final exclusive-or the checksum is the loop's result (R102). -/
theorem crc8_eq (cfg : Config) (s : List Byte) : crc8 cfg s = crc8Run cfg.crcPoly cfg.crcInit s := by
  simp [crc8, Params.crcXorOut]

/-- One byte more is one step more (R103). -/
theorem crc8_append_singleton (cfg : Config) (s : List Byte) (b : Byte) :
    crc8 cfg (s ++ [b]) = crc8Upd cfg.crcPoly (crc8 cfg s) b := by
  simp [crc8_eq, crc8Run_append]

/-- One bit of the step is linear in the register. -/
theorem crcShift_xor (poly x y : Byte) :
    crcShift poly (x ^^^ y) = crcShift poly x ^^^ crcShift poly y := by
  unfold crcShift
  rw [BitVec.msb_xor]
  cases x.msb <;> cases y.msb <;> simp [BitVec.shiftLeft_xor_distrib]
  · ac_rfl
  · ac_rfl
  · rw [BitVec.xor_assoc, ← BitVec.xor_assoc poly, BitVec.xor_comm poly, BitVec.xor_assoc, BitVec.xor_self,
      BitVec.xor_zero]

/-- `n` bits of the step are linear in the register. -/
theorem crcShifts_xor (poly : Byte) (n : Nat) (x y : Byte) : crcShifts poly n (x ^^^ y) = crcShifts poly n x ^^^ crcShifts poly n y := by
  induction n generalizing x y with
  | zero => rfl
  | succ n ih => simp [crcShifts, crcShift_xor, ih]

/-- A polynomial with its lowest term loses no bit: only 0 is shifted to 0. -/
theorem crcShift_eq_zero (poly r : Byte) (hp : poly.getLsbD 0 = true) (h : crcShift poly r = 0) : r = 0 := by
  revert h hp
  unfold crcShift
  by_cases hm : r.msb = true
  · rw [if_pos hm]; intro hp h
    have : (r <<< 1 ^^^ poly).getLsbD 0 = false := by rw [h]; rfl
    simp at this
    rw [← BitVec.getLsbD_eq_getElem] at this
    rw [hp] at this; cases this
  · rw [if_neg hm]; intro _ h
    apply BitVec.eq_of_getLsbD_eq
    intro i hi
    by_cases h7 : i = 7
    · subst h7; simpa [BitVec.msb_eq_getLsbD_last] using hm
    · have : (r <<< 1).getLsbD (i+1) = false := by rw [h]; simp
      rw [BitVec.getLsbD_shiftLeft] at this
      simp at this; simpa using this (by omega)

theorem crcShifts_eq_zero (poly : Byte) (hp : poly.getLsbD 0 = true) (n : Nat) (x : Byte) (h : crcShifts poly n x = 0) : x = 0 := by
  induction n generalizing x with
  | zero => exact h
  | succ n ih => exact crcShift_eq_zero poly x hp (ih _ h)

@[simp] theorem frameBytes_length (t : Byte) (payload : List Byte) (k : Byte) :
    (frameBytes t payload k).length = payload.length + 4 := by simp [frameBytes]

end Sys2Proof.Machine
end

