-- ==== Sys2Proof/Laws/Decode.lean ====
section
/-! SUPPORT. What the decoder of commands can answer: once, for every proof about it. -/

namespace Sys2Proof

theorem opcodeOf_code (o : Opcode) : opcodeOf o.code = some o := by cases o <;> decide

theorem opcodeOf_eq_some {b : Byte} {o : Opcode} (h : opcodeOf b = some o) : b = o.code := by
  have := List.find?_some h
  exact (by simpa using this : o.code = b).symm

/-- A command that decodes has the code of an operation and the length of its format, and gives its operands. -/
theorem decode_eq_ok {cmd : List Byte} {i : Instr} (h : decode cmd = .ok i) :
    ∃ o : Opcode, cmd.head? = some o.code ∧ cmd.length = o.format.commandLength cmd ∧ i = operandsOf o cmd := by
  unfold decode at h
  split at h
  · cases h
  · split at h
    · cases h
    · rename_i op rest _ o ho
      split at h
      · rename_i hl
        exact ⟨o, by simp [opcodeOf_eq_some ho], hl, by cases h; rfl⟩
      · cases h

/-- A command of another length than its operation's format does not decode. -/
theorem decode_ne_ok_of_length {cmd : List Byte} {o : Opcode} (hc : cmd.head? = some o.code)
    (hl : cmd.length ≠ o.format.commandLength cmd) (i : Instr) : decode cmd ≠ .ok i := by
  intro h
  obtain ⟨o', h1, h2, -⟩ := decode_eq_ok h
  rw [h1, Option.some.injEq] at hc
  have : o' = o := by have := opcodeOf_code o'; rw [hc, opcodeOf_code] at this; exact (Option.some.inj this).symm
  exact hl (this ▸ h2)

/-- A command of an operation's code and length gives that operation's operands. -/
theorem decode_eq_operandsOf {o : Opcode} {rest : List Byte}
    (hl : (o.code :: rest).length = o.format.commandLength (o.code :: rest)) :
    decode (o.code :: rest) = .ok (operandsOf o (o.code :: rest)) := by
  simp only [decode, opcodeOf_code]; rw [if_pos hl]

end Sys2Proof
end

