-- ==== Sys2Proof/Laws/State.lean ====
section
/-! SUPPORT. One lemma per field per named update of State, true by rfl, so that no proof unfolds an update. -/

namespace Sys2Proof.Machine

variable (s : State)

/-! `State.answer` -/
@[simp] theorem State.answer_cfg (r : Response) : (s.answer r).cfg = s.cfg := rfl
@[simp] theorem State.answer_rcCh (r : Response) : (s.answer r).rcCh = s.rcCh := rfl
@[simp] theorem State.answer_rcValid (r : Response) : (s.answer r).rcValid = s.rcValid := rfl
@[simp] theorem State.answer_rcFailsafe (r : Response) : (s.answer r).rcFailsafe = s.rcFailsafe := rfl
@[simp] theorem State.answer_rxState (r : Response) : (s.answer r).rxState = s.rxState := rfl
@[simp] theorem State.answer_rxLen (r : Response) : (s.answer r).rxLen = s.rxLen := rfl
@[simp] theorem State.answer_rxType (r : Response) : (s.answer r).rxType = s.rxType := rfl
@[simp] theorem State.answer_rxCnt (r : Response) : (s.answer r).rxCnt = s.rxCnt := rfl
@[simp] theorem State.answer_rxCrc (r : Response) : (s.answer r).rxCrc = s.rxCrc := rfl
@[simp] theorem State.answer_rxBuf (r : Response) : (s.answer r).rxBuf = s.rxBuf := rfl
@[simp] theorem State.answer_attRoll (r : Response) : (s.answer r).attRoll = s.attRoll := rfl
@[simp] theorem State.answer_attPitch (r : Response) : (s.answer r).attPitch = s.attPitch := rfl
@[simp] theorem State.answer_attYaw (r : Response) : (s.answer r).attYaw = s.attYaw := rfl
@[simp] theorem State.answer_baroAlt (r : Response) : (s.answer r).baroAlt = s.baroAlt := rfl
@[simp] theorem State.answer_baroVario (r : Response) : (s.answer r).baroVario = s.baroVario := rfl
@[simp] theorem State.answer_batVoltage (r : Response) : (s.answer r).batVoltage = s.batVoltage := rfl
@[simp] theorem State.answer_batCurrent (r : Response) : (s.answer r).batCurrent = s.batCurrent := rfl
@[simp] theorem State.answer_batFuel (r : Response) : (s.answer r).batFuel = s.batFuel := rfl
@[simp] theorem State.answer_batPercent (r : Response) : (s.answer r).batPercent = s.batPercent := rfl
@[simp] theorem State.answer_gpsLat (r : Response) : (s.answer r).gpsLat = s.gpsLat := rfl
@[simp] theorem State.answer_gpsLon (r : Response) : (s.answer r).gpsLon = s.gpsLon := rfl
@[simp] theorem State.answer_gpsAlt (r : Response) : (s.answer r).gpsAlt = s.gpsAlt := rfl
@[simp] theorem State.answer_gpsSpeed (r : Response) : (s.answer r).gpsSpeed = s.gpsSpeed := rfl
@[simp] theorem State.answer_gpsCourse (r : Response) : (s.answer r).gpsCourse = s.gpsCourse := rfl
@[simp] theorem State.answer_gpsSats (r : Response) : (s.answer r).gpsSats = s.gpsSats := rfl
@[simp] theorem State.answer_fmId (r : Response) : (s.answer r).fmId = s.fmId := rfl
@[simp] theorem State.answer_fmArmed (r : Response) : (s.answer r).fmArmed = s.fmArmed := rfl
@[simp] theorem State.answer_fmSlot (r : Response) : (s.answer r).fmSlot = s.fmSlot := rfl
@[simp] theorem State.answer_tlmLast (r : Response) : (s.answer r).tlmLast = s.tlmLast := rfl
@[simp] theorem State.answer_tlmIdx (r : Response) : (s.answer r).tlmIdx = s.tlmIdx := rfl
@[simp] theorem State.answer_draws (r : Response) : (s.answer r).draws = s.draws := rfl
@[simp] theorem State.answer_inbox (r : Response) : (s.answer r).inbox = s.inbox := rfl
@[simp] theorem State.answer_rsps (r : Response) : (s.answer r).rsps = s.rsps ++ [responseBytes r] := rfl

/-! `State.loadChannels` -/
@[simp] theorem State.loadChannels_cfg (ch : Vector Chan 16) : (s.loadChannels ch).cfg = s.cfg := rfl
@[simp] theorem State.loadChannels_rcCh (ch : Vector Chan 16) : (s.loadChannels ch).rcCh = ch := rfl
@[simp] theorem State.loadChannels_rcValid (ch : Vector Chan 16) : (s.loadChannels ch).rcValid = true := rfl
@[simp] theorem State.loadChannels_rcFailsafe (ch : Vector Chan 16) : (s.loadChannels ch).rcFailsafe = Config.freeFailsafe s.draws := rfl
@[simp] theorem State.loadChannels_rxState (ch : Vector Chan 16) : (s.loadChannels ch).rxState = s.rxState := rfl
@[simp] theorem State.loadChannels_rxLen (ch : Vector Chan 16) : (s.loadChannels ch).rxLen = s.rxLen := rfl
@[simp] theorem State.loadChannels_rxType (ch : Vector Chan 16) : (s.loadChannels ch).rxType = s.rxType := rfl
@[simp] theorem State.loadChannels_rxCnt (ch : Vector Chan 16) : (s.loadChannels ch).rxCnt = s.rxCnt := rfl
@[simp] theorem State.loadChannels_rxCrc (ch : Vector Chan 16) : (s.loadChannels ch).rxCrc = s.rxCrc := rfl
@[simp] theorem State.loadChannels_rxBuf (ch : Vector Chan 16) : (s.loadChannels ch).rxBuf = s.rxBuf := rfl
@[simp] theorem State.loadChannels_attRoll (ch : Vector Chan 16) : (s.loadChannels ch).attRoll = s.attRoll := rfl
@[simp] theorem State.loadChannels_attPitch (ch : Vector Chan 16) : (s.loadChannels ch).attPitch = s.attPitch := rfl
@[simp] theorem State.loadChannels_attYaw (ch : Vector Chan 16) : (s.loadChannels ch).attYaw = s.attYaw := rfl
@[simp] theorem State.loadChannels_baroAlt (ch : Vector Chan 16) : (s.loadChannels ch).baroAlt = s.baroAlt := rfl
@[simp] theorem State.loadChannels_baroVario (ch : Vector Chan 16) : (s.loadChannels ch).baroVario = s.baroVario := rfl
@[simp] theorem State.loadChannels_batVoltage (ch : Vector Chan 16) : (s.loadChannels ch).batVoltage = s.batVoltage := rfl
@[simp] theorem State.loadChannels_batCurrent (ch : Vector Chan 16) : (s.loadChannels ch).batCurrent = s.batCurrent := rfl
@[simp] theorem State.loadChannels_batFuel (ch : Vector Chan 16) : (s.loadChannels ch).batFuel = s.batFuel := rfl
@[simp] theorem State.loadChannels_batPercent (ch : Vector Chan 16) : (s.loadChannels ch).batPercent = s.batPercent := rfl
@[simp] theorem State.loadChannels_gpsLat (ch : Vector Chan 16) : (s.loadChannels ch).gpsLat = s.gpsLat := rfl
@[simp] theorem State.loadChannels_gpsLon (ch : Vector Chan 16) : (s.loadChannels ch).gpsLon = s.gpsLon := rfl
@[simp] theorem State.loadChannels_gpsAlt (ch : Vector Chan 16) : (s.loadChannels ch).gpsAlt = s.gpsAlt := rfl
@[simp] theorem State.loadChannels_gpsSpeed (ch : Vector Chan 16) : (s.loadChannels ch).gpsSpeed = s.gpsSpeed := rfl
@[simp] theorem State.loadChannels_gpsCourse (ch : Vector Chan 16) : (s.loadChannels ch).gpsCourse = s.gpsCourse := rfl
@[simp] theorem State.loadChannels_gpsSats (ch : Vector Chan 16) : (s.loadChannels ch).gpsSats = s.gpsSats := rfl
@[simp] theorem State.loadChannels_fmId (ch : Vector Chan 16) : (s.loadChannels ch).fmId = s.fmId := rfl
@[simp] theorem State.loadChannels_fmArmed (ch : Vector Chan 16) : (s.loadChannels ch).fmArmed = s.fmArmed := rfl
@[simp] theorem State.loadChannels_fmSlot (ch : Vector Chan 16) : (s.loadChannels ch).fmSlot = s.fmSlot := rfl
@[simp] theorem State.loadChannels_tlmLast (ch : Vector Chan 16) : (s.loadChannels ch).tlmLast = s.tlmLast := rfl
@[simp] theorem State.loadChannels_tlmIdx (ch : Vector Chan 16) : (s.loadChannels ch).tlmIdx = s.tlmIdx := rfl
@[simp] theorem State.loadChannels_draws (ch : Vector Chan 16) : (s.loadChannels ch).draws = s.draws + 1 := rfl
@[simp] theorem State.loadChannels_inbox (ch : Vector Chan 16) : (s.loadChannels ch).inbox = s.inbox := rfl
@[simp] theorem State.loadChannels_rsps (ch : Vector Chan 16) : (s.loadChannels ch).rsps = s.rsps := rfl

/-! `State.payloadWrite` -/
@[simp] theorem State.payloadWrite_cfg (b : Byte) : (s.payloadWrite b).cfg = s.cfg := rfl
@[simp] theorem State.payloadWrite_rcCh (b : Byte) : (s.payloadWrite b).rcCh = s.rcCh := rfl
@[simp] theorem State.payloadWrite_rcValid (b : Byte) : (s.payloadWrite b).rcValid = s.rcValid := rfl
@[simp] theorem State.payloadWrite_rcFailsafe (b : Byte) : (s.payloadWrite b).rcFailsafe = s.rcFailsafe := rfl
@[simp] theorem State.payloadWrite_rxState (b : Byte) : (s.payloadWrite b).rxState = s.rxState := rfl
@[simp] theorem State.payloadWrite_rxLen (b : Byte) : (s.payloadWrite b).rxLen = s.rxLen := rfl
@[simp] theorem State.payloadWrite_rxType (b : Byte) : (s.payloadWrite b).rxType = s.rxType := rfl
@[simp] theorem State.payloadWrite_rxCnt (b : Byte) : (s.payloadWrite b).rxCnt = s.rxCnt := rfl
@[simp] theorem State.payloadWrite_rxCrc (b : Byte) : (s.payloadWrite b).rxCrc = s.rxCrc := rfl
@[simp] theorem State.payloadWrite_rxBuf (b : Byte) : (s.payloadWrite b).rxBuf = s.rxBuf.setIfInBounds s.rxCnt.toNat b := rfl
@[simp] theorem State.payloadWrite_attRoll (b : Byte) : (s.payloadWrite b).attRoll = s.attRoll := rfl
@[simp] theorem State.payloadWrite_attPitch (b : Byte) : (s.payloadWrite b).attPitch = s.attPitch := rfl
@[simp] theorem State.payloadWrite_attYaw (b : Byte) : (s.payloadWrite b).attYaw = s.attYaw := rfl
@[simp] theorem State.payloadWrite_baroAlt (b : Byte) : (s.payloadWrite b).baroAlt = s.baroAlt := rfl
@[simp] theorem State.payloadWrite_baroVario (b : Byte) : (s.payloadWrite b).baroVario = s.baroVario := rfl
@[simp] theorem State.payloadWrite_batVoltage (b : Byte) : (s.payloadWrite b).batVoltage = s.batVoltage := rfl
@[simp] theorem State.payloadWrite_batCurrent (b : Byte) : (s.payloadWrite b).batCurrent = s.batCurrent := rfl
@[simp] theorem State.payloadWrite_batFuel (b : Byte) : (s.payloadWrite b).batFuel = s.batFuel := rfl
@[simp] theorem State.payloadWrite_batPercent (b : Byte) : (s.payloadWrite b).batPercent = s.batPercent := rfl
@[simp] theorem State.payloadWrite_gpsLat (b : Byte) : (s.payloadWrite b).gpsLat = s.gpsLat := rfl
@[simp] theorem State.payloadWrite_gpsLon (b : Byte) : (s.payloadWrite b).gpsLon = s.gpsLon := rfl
@[simp] theorem State.payloadWrite_gpsAlt (b : Byte) : (s.payloadWrite b).gpsAlt = s.gpsAlt := rfl
@[simp] theorem State.payloadWrite_gpsSpeed (b : Byte) : (s.payloadWrite b).gpsSpeed = s.gpsSpeed := rfl
@[simp] theorem State.payloadWrite_gpsCourse (b : Byte) : (s.payloadWrite b).gpsCourse = s.gpsCourse := rfl
@[simp] theorem State.payloadWrite_gpsSats (b : Byte) : (s.payloadWrite b).gpsSats = s.gpsSats := rfl
@[simp] theorem State.payloadWrite_fmId (b : Byte) : (s.payloadWrite b).fmId = s.fmId := rfl
@[simp] theorem State.payloadWrite_fmArmed (b : Byte) : (s.payloadWrite b).fmArmed = s.fmArmed := rfl
@[simp] theorem State.payloadWrite_fmSlot (b : Byte) : (s.payloadWrite b).fmSlot = s.fmSlot := rfl
@[simp] theorem State.payloadWrite_tlmLast (b : Byte) : (s.payloadWrite b).tlmLast = s.tlmLast := rfl
@[simp] theorem State.payloadWrite_tlmIdx (b : Byte) : (s.payloadWrite b).tlmIdx = s.tlmIdx := rfl
@[simp] theorem State.payloadWrite_draws (b : Byte) : (s.payloadWrite b).draws = s.draws := rfl
@[simp] theorem State.payloadWrite_inbox (b : Byte) : (s.payloadWrite b).inbox = s.inbox := rfl
@[simp] theorem State.payloadWrite_rsps (b : Byte) : (s.payloadWrite b).rsps = s.rsps := rfl

/-! `State.endFrame` -/
@[simp] theorem State.endFrame_cfg : s.endFrame.cfg = s.cfg := rfl
@[simp] theorem State.endFrame_rcCh : s.endFrame.rcCh = s.rcCh := rfl
@[simp] theorem State.endFrame_rcValid : s.endFrame.rcValid = s.rcValid := rfl
@[simp] theorem State.endFrame_rcFailsafe : s.endFrame.rcFailsafe = s.rcFailsafe := rfl
@[simp] theorem State.endFrame_rxState : s.endFrame.rxState = .idle := rfl
@[simp] theorem State.endFrame_rxLen : s.endFrame.rxLen = s.rxLen := rfl
@[simp] theorem State.endFrame_rxType : s.endFrame.rxType = s.rxType := rfl
@[simp] theorem State.endFrame_rxCnt : s.endFrame.rxCnt = 0 := rfl
@[simp] theorem State.endFrame_rxCrc : s.endFrame.rxCrc = s.rxCrc := rfl
@[simp] theorem State.endFrame_rxBuf : s.endFrame.rxBuf = s.rxBuf := rfl
@[simp] theorem State.endFrame_attRoll : s.endFrame.attRoll = s.attRoll := rfl
@[simp] theorem State.endFrame_attPitch : s.endFrame.attPitch = s.attPitch := rfl
@[simp] theorem State.endFrame_attYaw : s.endFrame.attYaw = s.attYaw := rfl
@[simp] theorem State.endFrame_baroAlt : s.endFrame.baroAlt = s.baroAlt := rfl
@[simp] theorem State.endFrame_baroVario : s.endFrame.baroVario = s.baroVario := rfl
@[simp] theorem State.endFrame_batVoltage : s.endFrame.batVoltage = s.batVoltage := rfl
@[simp] theorem State.endFrame_batCurrent : s.endFrame.batCurrent = s.batCurrent := rfl
@[simp] theorem State.endFrame_batFuel : s.endFrame.batFuel = s.batFuel := rfl
@[simp] theorem State.endFrame_batPercent : s.endFrame.batPercent = s.batPercent := rfl
@[simp] theorem State.endFrame_gpsLat : s.endFrame.gpsLat = s.gpsLat := rfl
@[simp] theorem State.endFrame_gpsLon : s.endFrame.gpsLon = s.gpsLon := rfl
@[simp] theorem State.endFrame_gpsAlt : s.endFrame.gpsAlt = s.gpsAlt := rfl
@[simp] theorem State.endFrame_gpsSpeed : s.endFrame.gpsSpeed = s.gpsSpeed := rfl
@[simp] theorem State.endFrame_gpsCourse : s.endFrame.gpsCourse = s.gpsCourse := rfl
@[simp] theorem State.endFrame_gpsSats : s.endFrame.gpsSats = s.gpsSats := rfl
@[simp] theorem State.endFrame_fmId : s.endFrame.fmId = s.fmId := rfl
@[simp] theorem State.endFrame_fmArmed : s.endFrame.fmArmed = s.fmArmed := rfl
@[simp] theorem State.endFrame_fmSlot : s.endFrame.fmSlot = s.fmSlot := rfl
@[simp] theorem State.endFrame_tlmLast : s.endFrame.tlmLast = s.tlmLast := rfl
@[simp] theorem State.endFrame_tlmIdx : s.endFrame.tlmIdx = s.tlmIdx := rfl
@[simp] theorem State.endFrame_draws : s.endFrame.draws = s.draws := rfl
@[simp] theorem State.endFrame_inbox : s.endFrame.inbox = s.inbox := rfl
@[simp] theorem State.endFrame_rsps : s.endFrame.rsps = s.rsps := rfl

/-! `State.stageAtt` -/
@[simp] theorem State.stageAtt_cfg (a b c : Half) : (s.stageAtt a b c).cfg = s.cfg := rfl
@[simp] theorem State.stageAtt_rcCh (a b c : Half) : (s.stageAtt a b c).rcCh = s.rcCh := rfl
@[simp] theorem State.stageAtt_rcValid (a b c : Half) : (s.stageAtt a b c).rcValid = s.rcValid := rfl
@[simp] theorem State.stageAtt_rcFailsafe (a b c : Half) : (s.stageAtt a b c).rcFailsafe = s.rcFailsafe := rfl
@[simp] theorem State.stageAtt_rxState (a b c : Half) : (s.stageAtt a b c).rxState = s.rxState := rfl
@[simp] theorem State.stageAtt_rxLen (a b c : Half) : (s.stageAtt a b c).rxLen = s.rxLen := rfl
@[simp] theorem State.stageAtt_rxType (a b c : Half) : (s.stageAtt a b c).rxType = s.rxType := rfl
@[simp] theorem State.stageAtt_rxCnt (a b c : Half) : (s.stageAtt a b c).rxCnt = s.rxCnt := rfl
@[simp] theorem State.stageAtt_rxCrc (a b c : Half) : (s.stageAtt a b c).rxCrc = s.rxCrc := rfl
@[simp] theorem State.stageAtt_rxBuf (a b c : Half) : (s.stageAtt a b c).rxBuf = s.rxBuf := rfl
@[simp] theorem State.stageAtt_attRoll (a b c : Half) : (s.stageAtt a b c).attRoll = a := rfl
@[simp] theorem State.stageAtt_attPitch (a b c : Half) : (s.stageAtt a b c).attPitch = b := rfl
@[simp] theorem State.stageAtt_attYaw (a b c : Half) : (s.stageAtt a b c).attYaw = c := rfl
@[simp] theorem State.stageAtt_baroAlt (a b c : Half) : (s.stageAtt a b c).baroAlt = s.baroAlt := rfl
@[simp] theorem State.stageAtt_baroVario (a b c : Half) : (s.stageAtt a b c).baroVario = s.baroVario := rfl
@[simp] theorem State.stageAtt_batVoltage (a b c : Half) : (s.stageAtt a b c).batVoltage = s.batVoltage := rfl
@[simp] theorem State.stageAtt_batCurrent (a b c : Half) : (s.stageAtt a b c).batCurrent = s.batCurrent := rfl
@[simp] theorem State.stageAtt_batFuel (a b c : Half) : (s.stageAtt a b c).batFuel = s.batFuel := rfl
@[simp] theorem State.stageAtt_batPercent (a b c : Half) : (s.stageAtt a b c).batPercent = s.batPercent := rfl
@[simp] theorem State.stageAtt_gpsLat (a b c : Half) : (s.stageAtt a b c).gpsLat = s.gpsLat := rfl
@[simp] theorem State.stageAtt_gpsLon (a b c : Half) : (s.stageAtt a b c).gpsLon = s.gpsLon := rfl
@[simp] theorem State.stageAtt_gpsAlt (a b c : Half) : (s.stageAtt a b c).gpsAlt = s.gpsAlt := rfl
@[simp] theorem State.stageAtt_gpsSpeed (a b c : Half) : (s.stageAtt a b c).gpsSpeed = s.gpsSpeed := rfl
@[simp] theorem State.stageAtt_gpsCourse (a b c : Half) : (s.stageAtt a b c).gpsCourse = s.gpsCourse := rfl
@[simp] theorem State.stageAtt_gpsSats (a b c : Half) : (s.stageAtt a b c).gpsSats = s.gpsSats := rfl
@[simp] theorem State.stageAtt_fmId (a b c : Half) : (s.stageAtt a b c).fmId = s.fmId := rfl
@[simp] theorem State.stageAtt_fmArmed (a b c : Half) : (s.stageAtt a b c).fmArmed = s.fmArmed := rfl
@[simp] theorem State.stageAtt_fmSlot (a b c : Half) : (s.stageAtt a b c).fmSlot = s.fmSlot := rfl
@[simp] theorem State.stageAtt_tlmLast (a b c : Half) : (s.stageAtt a b c).tlmLast = s.tlmLast := rfl
@[simp] theorem State.stageAtt_tlmIdx (a b c : Half) : (s.stageAtt a b c).tlmIdx = s.tlmIdx := rfl
@[simp] theorem State.stageAtt_draws (a b c : Half) : (s.stageAtt a b c).draws = s.draws := rfl
@[simp] theorem State.stageAtt_inbox (a b c : Half) : (s.stageAtt a b c).inbox = s.inbox := rfl
@[simp] theorem State.stageAtt_rsps (a b c : Half) : (s.stageAtt a b c).rsps = s.rsps := rfl

/-! `State.stageBaro` -/
@[simp] theorem State.stageBaro_cfg (a : Word) (b : Half) : (s.stageBaro a b).cfg = s.cfg := rfl
@[simp] theorem State.stageBaro_rcCh (a : Word) (b : Half) : (s.stageBaro a b).rcCh = s.rcCh := rfl
@[simp] theorem State.stageBaro_rcValid (a : Word) (b : Half) : (s.stageBaro a b).rcValid = s.rcValid := rfl
@[simp] theorem State.stageBaro_rcFailsafe (a : Word) (b : Half) : (s.stageBaro a b).rcFailsafe = s.rcFailsafe := rfl
@[simp] theorem State.stageBaro_rxState (a : Word) (b : Half) : (s.stageBaro a b).rxState = s.rxState := rfl
@[simp] theorem State.stageBaro_rxLen (a : Word) (b : Half) : (s.stageBaro a b).rxLen = s.rxLen := rfl
@[simp] theorem State.stageBaro_rxType (a : Word) (b : Half) : (s.stageBaro a b).rxType = s.rxType := rfl
@[simp] theorem State.stageBaro_rxCnt (a : Word) (b : Half) : (s.stageBaro a b).rxCnt = s.rxCnt := rfl
@[simp] theorem State.stageBaro_rxCrc (a : Word) (b : Half) : (s.stageBaro a b).rxCrc = s.rxCrc := rfl
@[simp] theorem State.stageBaro_rxBuf (a : Word) (b : Half) : (s.stageBaro a b).rxBuf = s.rxBuf := rfl
@[simp] theorem State.stageBaro_attRoll (a : Word) (b : Half) : (s.stageBaro a b).attRoll = s.attRoll := rfl
@[simp] theorem State.stageBaro_attPitch (a : Word) (b : Half) : (s.stageBaro a b).attPitch = s.attPitch := rfl
@[simp] theorem State.stageBaro_attYaw (a : Word) (b : Half) : (s.stageBaro a b).attYaw = s.attYaw := rfl
@[simp] theorem State.stageBaro_baroAlt (a : Word) (b : Half) : (s.stageBaro a b).baroAlt = a := rfl
@[simp] theorem State.stageBaro_baroVario (a : Word) (b : Half) : (s.stageBaro a b).baroVario = b := rfl
@[simp] theorem State.stageBaro_batVoltage (a : Word) (b : Half) : (s.stageBaro a b).batVoltage = s.batVoltage := rfl
@[simp] theorem State.stageBaro_batCurrent (a : Word) (b : Half) : (s.stageBaro a b).batCurrent = s.batCurrent := rfl
@[simp] theorem State.stageBaro_batFuel (a : Word) (b : Half) : (s.stageBaro a b).batFuel = s.batFuel := rfl
@[simp] theorem State.stageBaro_batPercent (a : Word) (b : Half) : (s.stageBaro a b).batPercent = s.batPercent := rfl
@[simp] theorem State.stageBaro_gpsLat (a : Word) (b : Half) : (s.stageBaro a b).gpsLat = s.gpsLat := rfl
@[simp] theorem State.stageBaro_gpsLon (a : Word) (b : Half) : (s.stageBaro a b).gpsLon = s.gpsLon := rfl
@[simp] theorem State.stageBaro_gpsAlt (a : Word) (b : Half) : (s.stageBaro a b).gpsAlt = s.gpsAlt := rfl
@[simp] theorem State.stageBaro_gpsSpeed (a : Word) (b : Half) : (s.stageBaro a b).gpsSpeed = s.gpsSpeed := rfl
@[simp] theorem State.stageBaro_gpsCourse (a : Word) (b : Half) : (s.stageBaro a b).gpsCourse = s.gpsCourse := rfl
@[simp] theorem State.stageBaro_gpsSats (a : Word) (b : Half) : (s.stageBaro a b).gpsSats = s.gpsSats := rfl
@[simp] theorem State.stageBaro_fmId (a : Word) (b : Half) : (s.stageBaro a b).fmId = s.fmId := rfl
@[simp] theorem State.stageBaro_fmArmed (a : Word) (b : Half) : (s.stageBaro a b).fmArmed = s.fmArmed := rfl
@[simp] theorem State.stageBaro_fmSlot (a : Word) (b : Half) : (s.stageBaro a b).fmSlot = s.fmSlot := rfl
@[simp] theorem State.stageBaro_tlmLast (a : Word) (b : Half) : (s.stageBaro a b).tlmLast = s.tlmLast := rfl
@[simp] theorem State.stageBaro_tlmIdx (a : Word) (b : Half) : (s.stageBaro a b).tlmIdx = s.tlmIdx := rfl
@[simp] theorem State.stageBaro_draws (a : Word) (b : Half) : (s.stageBaro a b).draws = s.draws := rfl
@[simp] theorem State.stageBaro_inbox (a : Word) (b : Half) : (s.stageBaro a b).inbox = s.inbox := rfl
@[simp] theorem State.stageBaro_rsps (a : Word) (b : Half) : (s.stageBaro a b).rsps = s.rsps := rfl

/-! `State.stageBat` -/
@[simp] theorem State.stageBat_cfg (a b : Half) (c : Word) (d : Byte) : (s.stageBat a b c d).cfg = s.cfg := rfl
@[simp] theorem State.stageBat_rcCh (a b : Half) (c : Word) (d : Byte) : (s.stageBat a b c d).rcCh = s.rcCh := rfl
@[simp] theorem State.stageBat_rcValid (a b : Half) (c : Word) (d : Byte) : (s.stageBat a b c d).rcValid = s.rcValid := rfl
@[simp] theorem State.stageBat_rcFailsafe (a b : Half) (c : Word) (d : Byte) : (s.stageBat a b c d).rcFailsafe = s.rcFailsafe := rfl
@[simp] theorem State.stageBat_rxState (a b : Half) (c : Word) (d : Byte) : (s.stageBat a b c d).rxState = s.rxState := rfl
@[simp] theorem State.stageBat_rxLen (a b : Half) (c : Word) (d : Byte) : (s.stageBat a b c d).rxLen = s.rxLen := rfl
@[simp] theorem State.stageBat_rxType (a b : Half) (c : Word) (d : Byte) : (s.stageBat a b c d).rxType = s.rxType := rfl
@[simp] theorem State.stageBat_rxCnt (a b : Half) (c : Word) (d : Byte) : (s.stageBat a b c d).rxCnt = s.rxCnt := rfl
@[simp] theorem State.stageBat_rxCrc (a b : Half) (c : Word) (d : Byte) : (s.stageBat a b c d).rxCrc = s.rxCrc := rfl
@[simp] theorem State.stageBat_rxBuf (a b : Half) (c : Word) (d : Byte) : (s.stageBat a b c d).rxBuf = s.rxBuf := rfl
@[simp] theorem State.stageBat_attRoll (a b : Half) (c : Word) (d : Byte) : (s.stageBat a b c d).attRoll = s.attRoll := rfl
@[simp] theorem State.stageBat_attPitch (a b : Half) (c : Word) (d : Byte) : (s.stageBat a b c d).attPitch = s.attPitch := rfl
@[simp] theorem State.stageBat_attYaw (a b : Half) (c : Word) (d : Byte) : (s.stageBat a b c d).attYaw = s.attYaw := rfl
@[simp] theorem State.stageBat_baroAlt (a b : Half) (c : Word) (d : Byte) : (s.stageBat a b c d).baroAlt = s.baroAlt := rfl
@[simp] theorem State.stageBat_baroVario (a b : Half) (c : Word) (d : Byte) : (s.stageBat a b c d).baroVario = s.baroVario := rfl
@[simp] theorem State.stageBat_batVoltage (a b : Half) (c : Word) (d : Byte) : (s.stageBat a b c d).batVoltage = a := rfl
@[simp] theorem State.stageBat_batCurrent (a b : Half) (c : Word) (d : Byte) : (s.stageBat a b c d).batCurrent = b := rfl
@[simp] theorem State.stageBat_batFuel (a b : Half) (c : Word) (d : Byte) : (s.stageBat a b c d).batFuel = c := rfl
@[simp] theorem State.stageBat_batPercent (a b : Half) (c : Word) (d : Byte) : (s.stageBat a b c d).batPercent = d := rfl
@[simp] theorem State.stageBat_gpsLat (a b : Half) (c : Word) (d : Byte) : (s.stageBat a b c d).gpsLat = s.gpsLat := rfl
@[simp] theorem State.stageBat_gpsLon (a b : Half) (c : Word) (d : Byte) : (s.stageBat a b c d).gpsLon = s.gpsLon := rfl
@[simp] theorem State.stageBat_gpsAlt (a b : Half) (c : Word) (d : Byte) : (s.stageBat a b c d).gpsAlt = s.gpsAlt := rfl
@[simp] theorem State.stageBat_gpsSpeed (a b : Half) (c : Word) (d : Byte) : (s.stageBat a b c d).gpsSpeed = s.gpsSpeed := rfl
@[simp] theorem State.stageBat_gpsCourse (a b : Half) (c : Word) (d : Byte) : (s.stageBat a b c d).gpsCourse = s.gpsCourse := rfl
@[simp] theorem State.stageBat_gpsSats (a b : Half) (c : Word) (d : Byte) : (s.stageBat a b c d).gpsSats = s.gpsSats := rfl
@[simp] theorem State.stageBat_fmId (a b : Half) (c : Word) (d : Byte) : (s.stageBat a b c d).fmId = s.fmId := rfl
@[simp] theorem State.stageBat_fmArmed (a b : Half) (c : Word) (d : Byte) : (s.stageBat a b c d).fmArmed = s.fmArmed := rfl
@[simp] theorem State.stageBat_fmSlot (a b : Half) (c : Word) (d : Byte) : (s.stageBat a b c d).fmSlot = s.fmSlot := rfl
@[simp] theorem State.stageBat_tlmLast (a b : Half) (c : Word) (d : Byte) : (s.stageBat a b c d).tlmLast = s.tlmLast := rfl
@[simp] theorem State.stageBat_tlmIdx (a b : Half) (c : Word) (d : Byte) : (s.stageBat a b c d).tlmIdx = s.tlmIdx := rfl
@[simp] theorem State.stageBat_draws (a b : Half) (c : Word) (d : Byte) : (s.stageBat a b c d).draws = s.draws := rfl
@[simp] theorem State.stageBat_inbox (a b : Half) (c : Word) (d : Byte) : (s.stageBat a b c d).inbox = s.inbox := rfl
@[simp] theorem State.stageBat_rsps (a b : Half) (c : Word) (d : Byte) : (s.stageBat a b c d).rsps = s.rsps := rfl

/-! `State.stageGps` -/
@[simp] theorem State.stageGps_cfg (a b c : Word) (d e : Half) (f : Byte) : (s.stageGps a b c d e f).cfg = s.cfg := rfl
@[simp] theorem State.stageGps_rcCh (a b c : Word) (d e : Half) (f : Byte) : (s.stageGps a b c d e f).rcCh = s.rcCh := rfl
@[simp] theorem State.stageGps_rcValid (a b c : Word) (d e : Half) (f : Byte) : (s.stageGps a b c d e f).rcValid = s.rcValid := rfl
@[simp] theorem State.stageGps_rcFailsafe (a b c : Word) (d e : Half) (f : Byte) : (s.stageGps a b c d e f).rcFailsafe = s.rcFailsafe := rfl
@[simp] theorem State.stageGps_rxState (a b c : Word) (d e : Half) (f : Byte) : (s.stageGps a b c d e f).rxState = s.rxState := rfl
@[simp] theorem State.stageGps_rxLen (a b c : Word) (d e : Half) (f : Byte) : (s.stageGps a b c d e f).rxLen = s.rxLen := rfl
@[simp] theorem State.stageGps_rxType (a b c : Word) (d e : Half) (f : Byte) : (s.stageGps a b c d e f).rxType = s.rxType := rfl
@[simp] theorem State.stageGps_rxCnt (a b c : Word) (d e : Half) (f : Byte) : (s.stageGps a b c d e f).rxCnt = s.rxCnt := rfl
@[simp] theorem State.stageGps_rxCrc (a b c : Word) (d e : Half) (f : Byte) : (s.stageGps a b c d e f).rxCrc = s.rxCrc := rfl
@[simp] theorem State.stageGps_rxBuf (a b c : Word) (d e : Half) (f : Byte) : (s.stageGps a b c d e f).rxBuf = s.rxBuf := rfl
@[simp] theorem State.stageGps_attRoll (a b c : Word) (d e : Half) (f : Byte) : (s.stageGps a b c d e f).attRoll = s.attRoll := rfl
@[simp] theorem State.stageGps_attPitch (a b c : Word) (d e : Half) (f : Byte) : (s.stageGps a b c d e f).attPitch = s.attPitch := rfl
@[simp] theorem State.stageGps_attYaw (a b c : Word) (d e : Half) (f : Byte) : (s.stageGps a b c d e f).attYaw = s.attYaw := rfl
@[simp] theorem State.stageGps_baroAlt (a b c : Word) (d e : Half) (f : Byte) : (s.stageGps a b c d e f).baroAlt = s.baroAlt := rfl
@[simp] theorem State.stageGps_baroVario (a b c : Word) (d e : Half) (f : Byte) : (s.stageGps a b c d e f).baroVario = s.baroVario := rfl
@[simp] theorem State.stageGps_batVoltage (a b c : Word) (d e : Half) (f : Byte) : (s.stageGps a b c d e f).batVoltage = s.batVoltage := rfl
@[simp] theorem State.stageGps_batCurrent (a b c : Word) (d e : Half) (f : Byte) : (s.stageGps a b c d e f).batCurrent = s.batCurrent := rfl
@[simp] theorem State.stageGps_batFuel (a b c : Word) (d e : Half) (f : Byte) : (s.stageGps a b c d e f).batFuel = s.batFuel := rfl
@[simp] theorem State.stageGps_batPercent (a b c : Word) (d e : Half) (f : Byte) : (s.stageGps a b c d e f).batPercent = s.batPercent := rfl
@[simp] theorem State.stageGps_gpsLat (a b c : Word) (d e : Half) (f : Byte) : (s.stageGps a b c d e f).gpsLat = a := rfl
@[simp] theorem State.stageGps_gpsLon (a b c : Word) (d e : Half) (f : Byte) : (s.stageGps a b c d e f).gpsLon = b := rfl
@[simp] theorem State.stageGps_gpsAlt (a b c : Word) (d e : Half) (f : Byte) : (s.stageGps a b c d e f).gpsAlt = c := rfl
@[simp] theorem State.stageGps_gpsSpeed (a b c : Word) (d e : Half) (f : Byte) : (s.stageGps a b c d e f).gpsSpeed = d := rfl
@[simp] theorem State.stageGps_gpsCourse (a b c : Word) (d e : Half) (f : Byte) : (s.stageGps a b c d e f).gpsCourse = e := rfl
@[simp] theorem State.stageGps_gpsSats (a b c : Word) (d e : Half) (f : Byte) : (s.stageGps a b c d e f).gpsSats = f := rfl
@[simp] theorem State.stageGps_fmId (a b c : Word) (d e : Half) (f : Byte) : (s.stageGps a b c d e f).fmId = s.fmId := rfl
@[simp] theorem State.stageGps_fmArmed (a b c : Word) (d e : Half) (f : Byte) : (s.stageGps a b c d e f).fmArmed = s.fmArmed := rfl
@[simp] theorem State.stageGps_fmSlot (a b c : Word) (d e : Half) (f : Byte) : (s.stageGps a b c d e f).fmSlot = s.fmSlot := rfl
@[simp] theorem State.stageGps_tlmLast (a b c : Word) (d e : Half) (f : Byte) : (s.stageGps a b c d e f).tlmLast = s.tlmLast := rfl
@[simp] theorem State.stageGps_tlmIdx (a b c : Word) (d e : Half) (f : Byte) : (s.stageGps a b c d e f).tlmIdx = s.tlmIdx := rfl
@[simp] theorem State.stageGps_draws (a b c : Word) (d e : Half) (f : Byte) : (s.stageGps a b c d e f).draws = s.draws := rfl
@[simp] theorem State.stageGps_inbox (a b c : Word) (d e : Half) (f : Byte) : (s.stageGps a b c d e f).inbox = s.inbox := rfl
@[simp] theorem State.stageGps_rsps (a b c : Word) (d e : Half) (f : Byte) : (s.stageGps a b c d e f).rsps = s.rsps := rfl

/-! `State.stageFm` -/
@[simp] theorem State.stageFm_cfg (i : Fin 8) (a : Bool) : (s.stageFm i a).cfg = s.cfg := rfl
@[simp] theorem State.stageFm_rcCh (i : Fin 8) (a : Bool) : (s.stageFm i a).rcCh = s.rcCh := rfl
@[simp] theorem State.stageFm_rcValid (i : Fin 8) (a : Bool) : (s.stageFm i a).rcValid = s.rcValid := rfl
@[simp] theorem State.stageFm_rcFailsafe (i : Fin 8) (a : Bool) : (s.stageFm i a).rcFailsafe = s.rcFailsafe := rfl
@[simp] theorem State.stageFm_rxState (i : Fin 8) (a : Bool) : (s.stageFm i a).rxState = s.rxState := rfl
@[simp] theorem State.stageFm_rxLen (i : Fin 8) (a : Bool) : (s.stageFm i a).rxLen = s.rxLen := rfl
@[simp] theorem State.stageFm_rxType (i : Fin 8) (a : Bool) : (s.stageFm i a).rxType = s.rxType := rfl
@[simp] theorem State.stageFm_rxCnt (i : Fin 8) (a : Bool) : (s.stageFm i a).rxCnt = s.rxCnt := rfl
@[simp] theorem State.stageFm_rxCrc (i : Fin 8) (a : Bool) : (s.stageFm i a).rxCrc = s.rxCrc := rfl
@[simp] theorem State.stageFm_rxBuf (i : Fin 8) (a : Bool) : (s.stageFm i a).rxBuf = s.rxBuf := rfl
@[simp] theorem State.stageFm_attRoll (i : Fin 8) (a : Bool) : (s.stageFm i a).attRoll = s.attRoll := rfl
@[simp] theorem State.stageFm_attPitch (i : Fin 8) (a : Bool) : (s.stageFm i a).attPitch = s.attPitch := rfl
@[simp] theorem State.stageFm_attYaw (i : Fin 8) (a : Bool) : (s.stageFm i a).attYaw = s.attYaw := rfl
@[simp] theorem State.stageFm_baroAlt (i : Fin 8) (a : Bool) : (s.stageFm i a).baroAlt = s.baroAlt := rfl
@[simp] theorem State.stageFm_baroVario (i : Fin 8) (a : Bool) : (s.stageFm i a).baroVario = s.baroVario := rfl
@[simp] theorem State.stageFm_batVoltage (i : Fin 8) (a : Bool) : (s.stageFm i a).batVoltage = s.batVoltage := rfl
@[simp] theorem State.stageFm_batCurrent (i : Fin 8) (a : Bool) : (s.stageFm i a).batCurrent = s.batCurrent := rfl
@[simp] theorem State.stageFm_batFuel (i : Fin 8) (a : Bool) : (s.stageFm i a).batFuel = s.batFuel := rfl
@[simp] theorem State.stageFm_batPercent (i : Fin 8) (a : Bool) : (s.stageFm i a).batPercent = s.batPercent := rfl
@[simp] theorem State.stageFm_gpsLat (i : Fin 8) (a : Bool) : (s.stageFm i a).gpsLat = s.gpsLat := rfl
@[simp] theorem State.stageFm_gpsLon (i : Fin 8) (a : Bool) : (s.stageFm i a).gpsLon = s.gpsLon := rfl
@[simp] theorem State.stageFm_gpsAlt (i : Fin 8) (a : Bool) : (s.stageFm i a).gpsAlt = s.gpsAlt := rfl
@[simp] theorem State.stageFm_gpsSpeed (i : Fin 8) (a : Bool) : (s.stageFm i a).gpsSpeed = s.gpsSpeed := rfl
@[simp] theorem State.stageFm_gpsCourse (i : Fin 8) (a : Bool) : (s.stageFm i a).gpsCourse = s.gpsCourse := rfl
@[simp] theorem State.stageFm_gpsSats (i : Fin 8) (a : Bool) : (s.stageFm i a).gpsSats = s.gpsSats := rfl
@[simp] theorem State.stageFm_fmId (i : Fin 8) (a : Bool) : (s.stageFm i a).fmId = i := rfl
@[simp] theorem State.stageFm_fmArmed (i : Fin 8) (a : Bool) : (s.stageFm i a).fmArmed = a := rfl
@[simp] theorem State.stageFm_fmSlot (i : Fin 8) (a : Bool) : (s.stageFm i a).fmSlot = s.fmSlot := rfl
@[simp] theorem State.stageFm_tlmLast (i : Fin 8) (a : Bool) : (s.stageFm i a).tlmLast = s.tlmLast := rfl
@[simp] theorem State.stageFm_tlmIdx (i : Fin 8) (a : Bool) : (s.stageFm i a).tlmIdx = s.tlmIdx := rfl
@[simp] theorem State.stageFm_draws (i : Fin 8) (a : Bool) : (s.stageFm i a).draws = s.draws := rfl
@[simp] theorem State.stageFm_inbox (i : Fin 8) (a : Bool) : (s.stageFm i a).inbox = s.inbox := rfl
@[simp] theorem State.stageFm_rsps (i : Fin 8) (a : Bool) : (s.stageFm i a).rsps = s.rsps := rfl

/-! `State.setSlot` -/
@[simp] theorem State.setSlot_cfg (i : Fin 8) (x : FmSlot) : (s.setSlot i x).cfg = s.cfg := rfl
@[simp] theorem State.setSlot_rcCh (i : Fin 8) (x : FmSlot) : (s.setSlot i x).rcCh = s.rcCh := rfl
@[simp] theorem State.setSlot_rcValid (i : Fin 8) (x : FmSlot) : (s.setSlot i x).rcValid = s.rcValid := rfl
@[simp] theorem State.setSlot_rcFailsafe (i : Fin 8) (x : FmSlot) : (s.setSlot i x).rcFailsafe = s.rcFailsafe := rfl
@[simp] theorem State.setSlot_rxState (i : Fin 8) (x : FmSlot) : (s.setSlot i x).rxState = s.rxState := rfl
@[simp] theorem State.setSlot_rxLen (i : Fin 8) (x : FmSlot) : (s.setSlot i x).rxLen = s.rxLen := rfl
@[simp] theorem State.setSlot_rxType (i : Fin 8) (x : FmSlot) : (s.setSlot i x).rxType = s.rxType := rfl
@[simp] theorem State.setSlot_rxCnt (i : Fin 8) (x : FmSlot) : (s.setSlot i x).rxCnt = s.rxCnt := rfl
@[simp] theorem State.setSlot_rxCrc (i : Fin 8) (x : FmSlot) : (s.setSlot i x).rxCrc = s.rxCrc := rfl
@[simp] theorem State.setSlot_rxBuf (i : Fin 8) (x : FmSlot) : (s.setSlot i x).rxBuf = s.rxBuf := rfl
@[simp] theorem State.setSlot_attRoll (i : Fin 8) (x : FmSlot) : (s.setSlot i x).attRoll = s.attRoll := rfl
@[simp] theorem State.setSlot_attPitch (i : Fin 8) (x : FmSlot) : (s.setSlot i x).attPitch = s.attPitch := rfl
@[simp] theorem State.setSlot_attYaw (i : Fin 8) (x : FmSlot) : (s.setSlot i x).attYaw = s.attYaw := rfl
@[simp] theorem State.setSlot_baroAlt (i : Fin 8) (x : FmSlot) : (s.setSlot i x).baroAlt = s.baroAlt := rfl
@[simp] theorem State.setSlot_baroVario (i : Fin 8) (x : FmSlot) : (s.setSlot i x).baroVario = s.baroVario := rfl
@[simp] theorem State.setSlot_batVoltage (i : Fin 8) (x : FmSlot) : (s.setSlot i x).batVoltage = s.batVoltage := rfl
@[simp] theorem State.setSlot_batCurrent (i : Fin 8) (x : FmSlot) : (s.setSlot i x).batCurrent = s.batCurrent := rfl
@[simp] theorem State.setSlot_batFuel (i : Fin 8) (x : FmSlot) : (s.setSlot i x).batFuel = s.batFuel := rfl
@[simp] theorem State.setSlot_batPercent (i : Fin 8) (x : FmSlot) : (s.setSlot i x).batPercent = s.batPercent := rfl
@[simp] theorem State.setSlot_gpsLat (i : Fin 8) (x : FmSlot) : (s.setSlot i x).gpsLat = s.gpsLat := rfl
@[simp] theorem State.setSlot_gpsLon (i : Fin 8) (x : FmSlot) : (s.setSlot i x).gpsLon = s.gpsLon := rfl
@[simp] theorem State.setSlot_gpsAlt (i : Fin 8) (x : FmSlot) : (s.setSlot i x).gpsAlt = s.gpsAlt := rfl
@[simp] theorem State.setSlot_gpsSpeed (i : Fin 8) (x : FmSlot) : (s.setSlot i x).gpsSpeed = s.gpsSpeed := rfl
@[simp] theorem State.setSlot_gpsCourse (i : Fin 8) (x : FmSlot) : (s.setSlot i x).gpsCourse = s.gpsCourse := rfl
@[simp] theorem State.setSlot_gpsSats (i : Fin 8) (x : FmSlot) : (s.setSlot i x).gpsSats = s.gpsSats := rfl
@[simp] theorem State.setSlot_fmId (i : Fin 8) (x : FmSlot) : (s.setSlot i x).fmId = s.fmId := rfl
@[simp] theorem State.setSlot_fmArmed (i : Fin 8) (x : FmSlot) : (s.setSlot i x).fmArmed = s.fmArmed := rfl
@[simp] theorem State.setSlot_fmSlot (i : Fin 8) (x : FmSlot) : (s.setSlot i x).fmSlot = s.fmSlot.set i x := rfl
@[simp] theorem State.setSlot_tlmLast (i : Fin 8) (x : FmSlot) : (s.setSlot i x).tlmLast = s.tlmLast := rfl
@[simp] theorem State.setSlot_tlmIdx (i : Fin 8) (x : FmSlot) : (s.setSlot i x).tlmIdx = s.tlmIdx := rfl
@[simp] theorem State.setSlot_draws (i : Fin 8) (x : FmSlot) : (s.setSlot i x).draws = s.draws := rfl
@[simp] theorem State.setSlot_inbox (i : Fin 8) (x : FmSlot) : (s.setSlot i x).inbox = s.inbox := rfl
@[simp] theorem State.setSlot_rsps (i : Fin 8) (x : FmSlot) : (s.setSlot i x).rsps = s.rsps := rfl

/-! `State.present` -/
@[simp] theorem State.present_cfg (i : Input) : (s.present i).cfg = s.cfg := rfl
@[simp] theorem State.present_rcCh (i : Input) : (s.present i).rcCh = s.rcCh := rfl
@[simp] theorem State.present_rcValid (i : Input) : (s.present i).rcValid = s.rcValid := rfl
@[simp] theorem State.present_rcFailsafe (i : Input) : (s.present i).rcFailsafe = s.rcFailsafe := rfl
@[simp] theorem State.present_rxState (i : Input) : (s.present i).rxState = s.rxState := rfl
@[simp] theorem State.present_rxLen (i : Input) : (s.present i).rxLen = s.rxLen := rfl
@[simp] theorem State.present_rxType (i : Input) : (s.present i).rxType = s.rxType := rfl
@[simp] theorem State.present_rxCnt (i : Input) : (s.present i).rxCnt = s.rxCnt := rfl
@[simp] theorem State.present_rxCrc (i : Input) : (s.present i).rxCrc = s.rxCrc := rfl
@[simp] theorem State.present_rxBuf (i : Input) : (s.present i).rxBuf = s.rxBuf := rfl
@[simp] theorem State.present_attRoll (i : Input) : (s.present i).attRoll = s.attRoll := rfl
@[simp] theorem State.present_attPitch (i : Input) : (s.present i).attPitch = s.attPitch := rfl
@[simp] theorem State.present_attYaw (i : Input) : (s.present i).attYaw = s.attYaw := rfl
@[simp] theorem State.present_baroAlt (i : Input) : (s.present i).baroAlt = s.baroAlt := rfl
@[simp] theorem State.present_baroVario (i : Input) : (s.present i).baroVario = s.baroVario := rfl
@[simp] theorem State.present_batVoltage (i : Input) : (s.present i).batVoltage = s.batVoltage := rfl
@[simp] theorem State.present_batCurrent (i : Input) : (s.present i).batCurrent = s.batCurrent := rfl
@[simp] theorem State.present_batFuel (i : Input) : (s.present i).batFuel = s.batFuel := rfl
@[simp] theorem State.present_batPercent (i : Input) : (s.present i).batPercent = s.batPercent := rfl
@[simp] theorem State.present_gpsLat (i : Input) : (s.present i).gpsLat = s.gpsLat := rfl
@[simp] theorem State.present_gpsLon (i : Input) : (s.present i).gpsLon = s.gpsLon := rfl
@[simp] theorem State.present_gpsAlt (i : Input) : (s.present i).gpsAlt = s.gpsAlt := rfl
@[simp] theorem State.present_gpsSpeed (i : Input) : (s.present i).gpsSpeed = s.gpsSpeed := rfl
@[simp] theorem State.present_gpsCourse (i : Input) : (s.present i).gpsCourse = s.gpsCourse := rfl
@[simp] theorem State.present_gpsSats (i : Input) : (s.present i).gpsSats = s.gpsSats := rfl
@[simp] theorem State.present_fmId (i : Input) : (s.present i).fmId = s.fmId := rfl
@[simp] theorem State.present_fmArmed (i : Input) : (s.present i).fmArmed = s.fmArmed := rfl
@[simp] theorem State.present_fmSlot (i : Input) : (s.present i).fmSlot = s.fmSlot := rfl
@[simp] theorem State.present_tlmLast (i : Input) : (s.present i).tlmLast = s.tlmLast := rfl
@[simp] theorem State.present_tlmIdx (i : Input) : (s.present i).tlmIdx = s.tlmIdx := rfl
@[simp] theorem State.present_draws (i : Input) : (s.present i).draws = s.draws := rfl
@[simp] theorem State.present_inbox (i : Input) : (s.present i).inbox = i :: s.inbox := rfl
@[simp] theorem State.present_rsps (i : Input) : (s.present i).rsps = s.rsps := rfl

/-! `State.reinit`: the instance, the draws and the host's streams stay, every register is the reset state's. -/
@[simp] theorem State.reinit_cfg : s.reinit.cfg = s.cfg := rfl
@[simp] theorem State.reinit_rcCh : s.reinit.rcCh = (State.resetWith s.cfg).rcCh := rfl
@[simp] theorem State.reinit_rcValid : s.reinit.rcValid = (State.resetWith s.cfg).rcValid := rfl
@[simp] theorem State.reinit_rcFailsafe : s.reinit.rcFailsafe = (State.resetWith s.cfg).rcFailsafe := rfl
@[simp] theorem State.reinit_rxState : s.reinit.rxState = (State.resetWith s.cfg).rxState := rfl
@[simp] theorem State.reinit_rxLen : s.reinit.rxLen = (State.resetWith s.cfg).rxLen := rfl
@[simp] theorem State.reinit_rxType : s.reinit.rxType = (State.resetWith s.cfg).rxType := rfl
@[simp] theorem State.reinit_rxCnt : s.reinit.rxCnt = (State.resetWith s.cfg).rxCnt := rfl
@[simp] theorem State.reinit_rxCrc : s.reinit.rxCrc = (State.resetWith s.cfg).rxCrc := rfl
@[simp] theorem State.reinit_rxBuf : s.reinit.rxBuf = (State.resetWith s.cfg).rxBuf := rfl
@[simp] theorem State.reinit_attRoll : s.reinit.attRoll = (State.resetWith s.cfg).attRoll := rfl
@[simp] theorem State.reinit_attPitch : s.reinit.attPitch = (State.resetWith s.cfg).attPitch := rfl
@[simp] theorem State.reinit_attYaw : s.reinit.attYaw = (State.resetWith s.cfg).attYaw := rfl
@[simp] theorem State.reinit_baroAlt : s.reinit.baroAlt = (State.resetWith s.cfg).baroAlt := rfl
@[simp] theorem State.reinit_baroVario : s.reinit.baroVario = (State.resetWith s.cfg).baroVario := rfl
@[simp] theorem State.reinit_batVoltage : s.reinit.batVoltage = (State.resetWith s.cfg).batVoltage := rfl
@[simp] theorem State.reinit_batCurrent : s.reinit.batCurrent = (State.resetWith s.cfg).batCurrent := rfl
@[simp] theorem State.reinit_batFuel : s.reinit.batFuel = (State.resetWith s.cfg).batFuel := rfl
@[simp] theorem State.reinit_batPercent : s.reinit.batPercent = (State.resetWith s.cfg).batPercent := rfl
@[simp] theorem State.reinit_gpsLat : s.reinit.gpsLat = (State.resetWith s.cfg).gpsLat := rfl
@[simp] theorem State.reinit_gpsLon : s.reinit.gpsLon = (State.resetWith s.cfg).gpsLon := rfl
@[simp] theorem State.reinit_gpsAlt : s.reinit.gpsAlt = (State.resetWith s.cfg).gpsAlt := rfl
@[simp] theorem State.reinit_gpsSpeed : s.reinit.gpsSpeed = (State.resetWith s.cfg).gpsSpeed := rfl
@[simp] theorem State.reinit_gpsCourse : s.reinit.gpsCourse = (State.resetWith s.cfg).gpsCourse := rfl
@[simp] theorem State.reinit_gpsSats : s.reinit.gpsSats = (State.resetWith s.cfg).gpsSats := rfl
@[simp] theorem State.reinit_fmId : s.reinit.fmId = (State.resetWith s.cfg).fmId := rfl
@[simp] theorem State.reinit_fmArmed : s.reinit.fmArmed = (State.resetWith s.cfg).fmArmed := rfl
@[simp] theorem State.reinit_fmSlot : s.reinit.fmSlot = (State.resetWith s.cfg).fmSlot := rfl
@[simp] theorem State.reinit_tlmLast : s.reinit.tlmLast = (State.resetWith s.cfg).tlmLast := rfl
@[simp] theorem State.reinit_tlmIdx : s.reinit.tlmIdx = (State.resetWith s.cfg).tlmIdx := rfl
@[simp] theorem State.reinit_draws : s.reinit.draws = s.draws := rfl
@[simp] theorem State.reinit_inbox : s.reinit.inbox = s.inbox := rfl
@[simp] theorem State.reinit_rsps : s.reinit.rsps = s.rsps := rfl

end Sys2Proof.Machine
end

