-- ==== Sys2Proof/Laws/Ops.lean ====
section
/-! SUPPORT. One lemma per shared operation, saying everything it can do. -/

namespace Sys2Proof.Machine

/-- `finish` always answers a next state: the operation's, or the state with ILLEGAL answered (60 R254). -/
theorem finish_eq_next {built : Bool} {s t u : State} (h : finish built s t = .next u) :
    (built = true ∧ u = t) ∨ (built = false ∧ u = s.answer .illegal) := by
  cases built
  · exact .inr ⟨rfl, by simpa [finish] using h.symm⟩
  · exact .inl ⟨rfl, by simpa [finish] using h.symm⟩

theorem finish_of_built {built : Bool} (h : built = true) (s t : State) : finish built s t = .next t := by
  simp [finish, h]

theorem finish_of_absent {built : Bool} (h : built = false) (s t : State) :
    finish built s t = .next (s.answer .illegal) := by
  simp [finish, h]

/-- Every response has its status byte (30 R77). -/
theorem responseBytes_ne_nil (r : Response) : responseBytes r ≠ [] := by
  cases r <;> simp [responseBytes]

/-- A payload byte stored at `rx_cnt` is the last of the payload read with the next `rx_cnt` (20 R56). -/
theorem payloadRead_after_write (s : State) (b : Byte) (h : s.rxCnt.toNat < 60) :
    (s.rxBuf.setIfInBounds s.rxCnt.toNat b).toList.take (s.rxCnt + 1).toNat = s.payloadRead ++ [b] := by
  have hc : (s.rxCnt + 1).toNat = s.rxCnt.toNat + 1 := by
    rw [BitVec.toNat_add]; simp; omega
  have hl : s.rxBuf.toList.length = 60 := by simp
  rw [hc, State.payloadRead]
  have : (s.rxBuf.setIfInBounds s.rxCnt.toNat b).toList = s.rxBuf.toList.set s.rxCnt.toNat b := by
    simp [Vector.setIfInBounds, Vector.toList]
  rw [this, List.take_set, List.take_add_one, List.set_append_right _ _ (by simp)]
  have hm : min s.rxCnt.toNat 60 = s.rxCnt.toNat := by omega
  simp [hl, hm, h]

theorem channel_of_lt (s : State) {k : Nat} (h : k < 16) : s.channel k = s.rcCh[k] := by
  simp [State.channel, List.getD, h]

/-- Above 15 a channel reads the sentinel 0 (42 R170). -/
theorem channel_of_ge (s : State) {k : Nat} (h : 16 ≤ k) : s.channel k = 0 := by
  have hn : s.rcCh.toList[k]? = none := List.getElem?_eq_none (by simp; omega)
  simp [State.channel, List.getD, hn]

/-- A flight-mode identifier is in range exactly below 8 (43 R202). -/
theorem fmIdOf_eq_some {id : Byte} {i : Fin 8} : fmIdOf id = some i ↔ id.toNat = i.val := by
  unfold fmIdOf
  split <;> rename_i h
  · simp [Fin.ext_iff]
  · simp; omega

theorem fmIdOf_eq_none {id : Byte} : fmIdOf id = none ↔ 8 ≤ id.toNat := by
  unfold fmIdOf; split <;> simp <;> omega

/-- A slot channel is in range exactly below 16 (44 R226). -/
theorem channelOf_eq_some {c : Byte} {i : Fin 16} : channelOf c = some i ↔ c.toNat = i.val := by
  unfold channelOf
  split <;> rename_i h
  · simp [Fin.ext_iff]
  · simp; omega

theorem channelOf_eq_none {c : Byte} : channelOf c = none ↔ 16 ≤ c.toNat := by
  unfold channelOf; split <;> simp <;> omega

/-- A sensor kind is in range exactly below 5 (43 R204). -/
theorem kindOf_eq_some {k : Byte} {i : Fin 5} : kindOf k = some i ↔ k.toNat = i.val := by
  unfold kindOf
  split <;> rename_i h
  · simp [Fin.ext_iff]
  · simp; omega

theorem kindOf_eq_none {k : Byte} : kindOf k = none ↔ 5 ≤ k.toNat := by
  unfold kindOf; split <;> simp <;> omega

end Sys2Proof.Machine
end

