-- ==== Sys2Proof/Laws/Frx.lean ====
section
/-! SUPPORT. What one RX.BYTE can do, and the bytes of a stream one after another. -/

namespace Sys2Proof.Machine

@[simp] theorem feed_nil (s : State) : s.feed [] = s := rfl
@[simp] theorem feed_cons (s : State) (b : Byte) (bs : List Byte) : s.feed (b :: bs) = (s.receive b).feed bs := rfl

theorem feed_append (s : State) (as bs : List Byte) : s.feed (as ++ bs) = (s.feed as).feed bs := by
  induction as generalizing s with
  | nil => rfl
  | cons a as ih => simp [ih]

/-- Routing writes the channel registers and flags of an RC frame, or nothing (41 R131). -/
theorem routeFrame_cases (f : Frame) (s : State) :
    (routesRc s.cfg f = true ∧ routeFrame f s = s.loadChannels (unpack f.payload)) ∨
      (routesRc s.cfg f = false ∧ routeFrame f s = s) := by
  unfold routeFrame
  cases h : routesRc s.cfg f <;> simp

theorem rxStep_idle (b : Byte) (s : State) (h : s.rxState = .idle) : rxStep b s = rxIdle b s := by
  simp only [rxStep, h]
theorem rxStep_awaitLen (b : Byte) (s : State) (h : s.rxState = .awaitLen) : rxStep b s = rxAwaitLen b s := by
  simp only [rxStep, h]
theorem rxStep_awaitType (b : Byte) (s : State) (h : s.rxState = .awaitType) : rxStep b s = rxAwaitType b s := by
  simp only [rxStep, h]
theorem rxStep_payload (b : Byte) (s : State) (h : s.rxState = .payload) : rxStep b s = rxPayload b s := by
  simp only [rxStep, h]
theorem rxStep_awaitCrc (b : Byte) (s : State) (h : s.rxState = .awaitCrc) : rxStep b s = rxAwaitCrc b s := by
  simp only [rxStep, h]

/-- Everything one RX.BYTE can do, one case per row of 41 R122 (the two rows of `IDLE`, of `AWAIT_TYPE` and of `PAYLOAD`
stand together). -/
theorem rxStep_cases (b : Byte) (s : State) :
    (s.rxState = .idle ∧
      rxStep b s = ({ s with rxState := if b = Params.sync then .awaitLen else .idle }, .incomplete)) ∨
    (s.rxState = .awaitLen ∧ 2 ≤ b.toNat ∧ b.toNat ≤ 62 ∧
      rxStep b s = ({ s with rxLen := b, rxState := .awaitType }, .incomplete)) ∨
    (s.rxState = .awaitLen ∧ ¬(2 ≤ b.toNat ∧ b.toNat ≤ 62) ∧
      rxStep b s = ({ s with rxState := .idle }, .rejected .badLength)) ∨
    (s.rxState = .awaitType ∧
      rxStep b s = ({ s with rxType := b, rxCrc := crc8Upd s.cfg.crcPoly s.cfg.crcInit b, rxCnt := 0, rxState := if s.rxLen.toNat = 2 then .awaitCrc else .payload }, .incomplete)) ∨
    (s.rxState = .payload ∧
      rxStep b s = ({ s with rxBuf := s.rxBuf.setIfInBounds s.rxCnt.toNat b, rxCrc := crc8Upd s.cfg.crcPoly s.rxCrc b, rxCnt := s.rxCnt + 1, rxState := if s.rxCnt.toNat + 3 = s.rxLen.toNat then .awaitCrc else .payload }, .incomplete)) ∨
    (s.rxState = .awaitCrc ∧ b = s.rxCrc ∧
      rxStep b s = ((routeFrame (receivedFrame b s) s).endFrame,
        .complete (routeEvents s.cfg (receivedFrame b s)) (receivedFrame b s))) ∨
    (s.rxState = .awaitCrc ∧ b ≠ s.rxCrc ∧ rxStep b s = (s.endFrame, .rejected .crcMismatch)) := by
  cases h : s.rxState with
  | idle =>
    refine .inl ⟨rfl, ?_⟩
    rw [rxStep_idle b s h, rxIdle]
    split
    · rfl
    · rw [← h]
  | awaitLen =>
    rw [rxStep_awaitLen b s h, rxAwaitLen, Params.minLen, Params.maxLen, Params.maxPayload]
    by_cases hb : 2 ≤ b.toNat ∧ b.toNat ≤ 62
    · exact .inr (.inl ⟨rfl, hb.1, hb.2, if_pos hb⟩)
    · exact .inr (.inr (.inl ⟨rfl, hb, if_neg hb⟩))
  | awaitType => exact .inr (.inr (.inr (.inl ⟨rfl, rxStep_awaitType b s h⟩)))
  | payload => exact .inr (.inr (.inr (.inr (.inl ⟨rfl, rxStep_payload b s h⟩))))
  | awaitCrc =>
    rw [rxStep_awaitCrc b s h, rxAwaitCrc]
    by_cases hb : b = s.rxCrc
    · exact .inr (.inr (.inr (.inr (.inr (.inl ⟨rfl, hb, if_pos hb⟩)))))
    · exact .inr (.inr (.inr (.inr (.inr (.inr ⟨rfl, hb, if_neg hb⟩)))))

/-- RX.BYTE touches nothing but the receiver, and at the end of an RC frame the channel registers and flags (00 R15). -/
theorem rxStep_frame (b : Byte) (s : State) :
    ∃ st len ty cnt crc buf,
      (rxStep b s).1 = { s with rxState := st, rxLen := len, rxType := ty, rxCnt := cnt, rxCrc := crc, rxBuf := buf } ∨
      (rxStep b s).1 =
        { s.loadChannels (unpack s.payloadRead) with
          rxState := st, rxLen := len, rxType := ty, rxCnt := cnt, rxCrc := crc, rxBuf := buf } := by
  rcases rxStep_cases b s with ⟨_, h⟩ | ⟨_, _, _, h⟩ | ⟨_, _, h⟩ | ⟨_, h⟩ | ⟨_, h⟩ | ⟨_, _, h⟩ | ⟨_, _, h⟩
  all_goals rw [h]
  case inr.inr.inr.inr.inr.inl =>
    rcases routeFrame_cases (receivedFrame b s) s with ⟨_, hr⟩ | ⟨_, hr⟩
    · exact ⟨_, _, _, _, _, _, .inr (by rw [hr]; rfl)⟩
    · exact ⟨_, _, _, _, _, _, .inl (by rw [hr]; rfl)⟩
  all_goals exact ⟨_, _, _, _, _, _, .inl rfl⟩

/-- One RX.BYTE appends one response (41 R121). -/
theorem receive_rsps (s : State) (b : Byte) :
    (s.receive b).rsps = s.rsps ++ [responseBytes (rxStep b s).2] := by
  obtain ⟨_, _, _, _, _, _, h | h⟩ := rxStep_frame b s <;> simp [State.receive, h]

@[simp] theorem receive_cfg (s : State) (b : Byte) : (s.receive b).cfg = s.cfg := by
  obtain ⟨_, _, _, _, _, _, h | h⟩ := rxStep_frame b s <;> simp [State.receive, h]

@[simp] theorem receive_inbox (s : State) (b : Byte) : (s.receive b).inbox = s.inbox := by
  obtain ⟨_, _, _, _, _, _, h | h⟩ := rxStep_frame b s <;> simp [State.receive, h]

@[simp] theorem feed_cfg (s : State) (bs : List Byte) : (s.feed bs).cfg = s.cfg := by
  induction bs generalizing s with
  | nil => rfl
  | cons b bs ih => simp [ih]

@[simp] theorem feed_inbox (s : State) (bs : List Byte) : (s.feed bs).inbox = s.inbox := by
  induction bs generalizing s with
  | nil => rfl
  | cons b bs ih => simp [ih]

/-- The receiver's invariant speaks of the receiver's registers and the parameters only. -/
theorem rxInv_congr {s t : State} (hc : t.cfg = s.cfg) (h1 : t.rxState = s.rxState) (h2 : t.rxLen = s.rxLen) (h3 : t.rxType = s.rxType)
   (h4 : t.rxCnt = s.rxCnt) (h5 : t.rxCrc = s.rxCrc) (h6 : t.rxBuf = s.rxBuf) (h : s.RxInv) : t.RxInv := by
  unfold State.RxInv State.payloadRead at h ⊢
  rw [hc, h1, h2, h3, h4, h5, h6]; exact h

/-- One RX.BYTE keeps the receiver's invariant (10_state R25 to R27). -/
theorem receive_rxInv (s : State) (b : Byte) (h : s.RxInv) : (s.receive b).RxInv := by
  unfold State.RxInv at h
  unfold State.receive
  rcases rxStep_cases b s with ⟨e, h'⟩ | ⟨e, h1, h2, h'⟩ | ⟨e, _, h'⟩ | ⟨e, h'⟩ | ⟨e, h'⟩ | ⟨e, _, h'⟩ | ⟨e, _, h'⟩ <;>
    rw [h'] <;> rw [e] at h <;> simp only at h
  · by_cases hb : b = Params.sync <;> simpa [State.RxInv, State.answer, hb] using h
  · simp only [State.RxInv, State.answer]; exact ⟨h, h1, h2⟩
  · simpa only [State.RxInv, State.answer] using h
  · obtain ⟨h1, h2, h3⟩ := h
    by_cases hl : s.rxLen.toNat = 2
    · simp [State.RxInv, State.answer, hl, State.payloadRead, crc8_eq]
    · simp [State.RxInv, State.answer, hl, State.payloadRead, crc8_eq]; omega
  · obtain ⟨h1, h2, h3⟩ := h
    have hc : (s.rxCnt + 1).toNat = s.rxCnt.toNat + 1 := by
      rw [BitVec.toNat_add]; simp; omega
    have hp := payloadRead_after_write s b (by omega)
    have hcrc : crc8Upd s.cfg.crcPoly s.rxCrc b = crc8 s.cfg (s.rxType :: (s.payloadRead ++ [b])) := by
      rw [h3, ← List.cons_append, crc8_append_singleton]
    by_cases hl : s.rxCnt.toNat + 3 = s.rxLen.toNat
    · simp only [State.RxInv, State.answer, hl, if_true]
      refine ⟨by omega, h2, ?_⟩
      rw [hcrc]; unfold State.payloadRead; simp only; rw [hp]; rfl
    · simp only [State.RxInv, State.answer, hl, if_false]
      refine ⟨by omega, h2, ?_⟩
      rw [hcrc]; unfold State.payloadRead; simp only; rw [hp]; rfl
  · rfl
  · rfl

/-- The payload bytes of a frame, from the state `PAYLOAD` with `n` of them received (or `AWAIT_CRC` when none is left): they
fill `rx_buf` from `n` on, the checksum runs on over them, and each is answered INCOMPLETE (41 R127). -/
theorem feed_payload (p : List Byte) : ∀ (s : State) (n : Nat), s.rxState = (if p = [] then .awaitCrc else .payload) →
   s.rxCnt.toNat = n → n + p.length ≤ 60 → s.rxLen.toNat = n + p.length + 2 →
   ∃ buf, buf.toList = s.rxBuf.toList.take n ++ p ++ s.rxBuf.toList.drop (n + p.length) ∧
     s.feed p = { s with rxState := .awaitCrc, rxCnt := BitVec.ofNat 6 (n + p.length), rxCrc := crc8Run s.cfg.crcPoly s.rxCrc p, rxBuf := buf, rsps := s.rsps ++ List.replicate p.length [0x01] } := by
  induction p with
  | nil =>
    intro s n h1 h2 h3 h4
    refine ⟨s.rxBuf, by simp, ?_⟩
    simp at h1
    have : BitVec.ofNat 6 (n + ([]:List Byte).length) = s.rxCnt := by simp [← h2]
    rw [this]; simp [← h1]
  | cons b p ih =>
    intro s n h1 h2 h3 h4
    simp at h1
    simp only [List.length_cons] at h3 h4
    have hc : (s.rxCnt + 1).toNat = n + 1 := by
      rw [BitVec.toNat_add]; simp; omega
    have hs : s.receive b = { s with rxBuf := s.rxBuf.setIfInBounds s.rxCnt.toNat b, rxCrc := crc8Upd s.cfg.crcPoly s.rxCrc b, rxCnt := s.rxCnt + 1, rxState := (if p = [] then .awaitCrc else .payload), rsps := s.rsps ++ [[0x01]] } := by
      simp only [State.receive, rxStep_payload b s h1, rxPayload]
      have : (s.rxCnt.toNat + 3 = s.rxLen.toNat) = (p = []) := by
        apply propext
        rw [h2, h4, ← List.length_eq_zero_iff]; omega
      simp only [this]; rfl
    have := ih (s.receive b) (n+1) (by rw [hs]) (by rw [hs]; exact hc) (by omega) (by rw [hs]; simp only; omega)
    obtain ⟨buf, hb, hf⟩ := this
    refine ⟨buf, ?_, ?_⟩
    · rw [hb, hs]
      have : (s.rxBuf.setIfInBounds s.rxCnt.toNat b).toList = s.rxBuf.toList.set s.rxCnt.toNat b := by
        simp [Vector.setIfInBounds, Vector.toList]
      rw [h2] at this; rw [h2]; simp only [this]
      have hl : s.rxBuf.toList.length = 60 := by simp
      rw [List.drop_set_of_lt (by omega), List.take_set, List.take_add_one, List.set_append_right _ _ (by simp)]
      have hm : min n 60 = n := by omega
      simp [hm, (by omega : n < 60)]
      omega
    · rw [feed_cons, hf, hs]
      simp only [crc8Run_cons, List.length_cons, List.replicate_succ, List.append_assoc, List.cons_append, List.nil_append]
      rw [show n + 1 + p.length = n + (p.length + 1) by omega]

/-- From `IDLE`, the bytes of a frame up to its checksum byte (41 R132). -/
theorem feed_to_checksum (s : State) (t : Byte) (p : List Byte) (h : s.rxState = .idle) (hp : p.length ≤ 60) :
   ∃ buf, buf.toList = p ++ s.rxBuf.toList.drop p.length ∧
    s.feed ([0xC8, BitVec.ofNat 8 (p.length + 2), t] ++ p) = { s with rxState := .awaitCrc, rxLen := BitVec.ofNat 8 (p.length + 2), rxType := t, rxCnt := BitVec.ofNat 6 p.length, rxCrc := crc8 s.cfg (t :: p), rxBuf := buf, rsps := s.rsps ++ List.replicate (p.length + 3) [0x01] } := by
  have hl8 : (BitVec.ofNat 8 (p.length + 2)).toNat = p.length + 2 := by simp; omega
  have s1 : s.receive 0xC8 = { s with rxState := .awaitLen, rsps := s.rsps ++ [[0x01]] } := by
    simp only [State.receive, rxStep_idle _ s h, rxIdle]; rfl
  have s2 : (s.receive 0xC8).receive (BitVec.ofNat 8 (p.length + 2)) = { s with rxState := .awaitType, rxLen := BitVec.ofNat 8 (p.length + 2), rsps := s.rsps ++ [[0x01]] ++ [[0x01]] } := by
    rw [s1]; simp only [State.receive, rxStep_awaitLen _ { s with rxState := .awaitLen, rsps := s.rsps ++ [[0x01]] } rfl, rxAwaitLen]
    rw [if_pos (by rw [hl8]; simp only [Params.minLen, Params.maxLen, Params.maxPayload]; omega)]; rfl
  have s3 : ((s.receive 0xC8).receive (BitVec.ofNat 8 (p.length + 2))).receive t = { s with rxState := (if p = [] then .awaitCrc else .payload), rxLen := BitVec.ofNat 8 (p.length + 2), rxType := t, rxCrc := crc8Upd s.cfg.crcPoly s.cfg.crcInit t, rxCnt := 0, rsps := s.rsps ++ [[0x01]] ++ [[0x01]] ++ [[0x01]] } := by
    rw [s2]; simp only [State.receive, rxStep_awaitType _ { s with rxState := .awaitType, rxLen := BitVec.ofNat 8 (p.length + 2), rsps := s.rsps ++ [[0x01]] ++ [[0x01]] } rfl, rxAwaitType]
    have : ((BitVec.ofNat 8 (p.length + 2)).toNat = 2) = (p = []) := by
      apply propext; rw [hl8, ← List.length_eq_zero_iff]; omega
    simp only [this]; rfl
  obtain ⟨buf, hb, hf⟩ := feed_payload p (((s.receive 0xC8).receive (BitVec.ofNat 8 (p.length + 2))).receive t) 0 (by rw [s3]) (by rw [s3]; rfl) (by omega) (by rw [s3]; simp only [hl8]; omega)
  refine ⟨buf, ?_, ?_⟩
  · rw [hb, s3]; simp
  · rw [feed_append]
    simp only [feed_cons, feed_nil]
    rw [hf, s3]
    simp only [crc8_eq, crc8Run_cons, Nat.zero_add, List.append_assoc]
    rw [Nat.add_comm p.length 3, List.replicate_add]; rfl

end Sys2Proof.Machine
end

