-- ==== Sys2Proof/Laws/PerInstr.lean ====
section
/-! SUPPORT. One family of statements about every instruction as syntax, one lemma per constructor. -/

namespace Sys2Proof.Laws.EncodedSize

open Sys2Proof.Machine

/-- The total length of an instruction's bytes: its command format's (30_encoding R75) or its frame's (20_memory R59). -/
def size : Instr → Nat
  | .crcUpd _ _ => 3
  | .crcBlk d => 2 + d.length
  | .crcChk d _ => 3 + d.length
  | .rxByte _ => 2
  | .rxRst => 1
  | .rcDec _ => 23
  | .rcEnc _ => 33
  | .rcTous _ => 3
  | .rcToraw _ => 3
  | .rcGet _ => 2
  | .rcStat => 1
  | .tlmSetatt _ _ _ => 7
  | .tlmSetbaro _ _ => 7
  | .tlmSetbat _ _ _ _ => 10
  | .tlmSetgps _ _ _ _ _ _ => 18
  | .tlmSetfm _ _ => 3
  | .tlmSend _ => 2
  | .lsDec _ => 11
  | .fmSet _ _ _ _ => 7
  | .fmHandle => 1
  | .tlmUpdate _ => 5
  | .tlmSendnext => 1
  | .frameRcChannelsPacked payload _ => payload.length + 4
  | .frameLinkStatistics payload _ => payload.length + 4
  | .frameGps payload _ => payload.length + 4
  | .frameBattery payload _ => payload.length + 4
  | .frameBaroAlt payload _ => payload.length + 4
  | .frameAttitude payload _ => payload.length + 4
  | .frameFlightMode payload _ => payload.length + 4
  | .frameOther _ payload _ => payload.length + 4

/-- A well-formed instruction has as many bytes as its format says. -/
def Statement (i : Instr) : Prop := i.wf = true → (encode i).length = size i

theorem crcUpd (crc b : Byte) : Statement (.crcUpd crc b) := fun _ => rfl
theorem crcBlk (d : List Byte) : Statement (.crcBlk d) := fun _ => by simp [encode, size]; omega
theorem crcChk (d : List Byte) (e : Byte) : Statement (.crcChk d e) := fun _ => by simp [encode, size]; omega
theorem rxByte (b : Byte) : Statement (.rxByte b) := fun _ => rfl
theorem rxRst : Statement (.rxRst) := fun _ => rfl
theorem rcDec (p : List Byte) : Statement (.rcDec p) := fun h => by
  have hl : p.length = 22 := by simpa [Instr.wf] using h
  simp [encode, size, hl]
theorem rcEnc (c : List Half) : Statement (.rcEnc c) := fun h => by
  have hl : c.length = 16 := by simpa [Instr.wf] using h
  simp [encode, size, hl]
theorem rcTous (raw : Half) : Statement (.rcTous raw) := fun _ => rfl
theorem rcToraw (us : Half) : Statement (.rcToraw us) := fun _ => rfl
theorem rcGet (index : Byte) : Statement (.rcGet index) := fun _ => rfl
theorem rcStat : Statement (.rcStat) := fun _ => rfl
theorem tlmSetatt (roll pitch yaw : Half) : Statement (.tlmSetatt roll pitch yaw) := fun _ => rfl
theorem tlmSetbaro (alt : Word) (vario : Half) : Statement (.tlmSetbaro alt vario) := fun _ => rfl
theorem tlmSetbat (voltage current : Half) (fuel : Word) (percent : Byte) : Statement (.tlmSetbat voltage current fuel percent) := fun _ => rfl
theorem tlmSetgps (lat lon alt : Word) (speed course : Half) (sats : Byte) : Statement (.tlmSetgps lat lon alt speed course sats) := fun _ => rfl
theorem tlmSetfm (id armed : Byte) : Statement (.tlmSetfm id armed) := fun _ => rfl
theorem tlmSend (kind : Byte) : Statement (.tlmSend kind) := fun _ => rfl
theorem lsDec (p : List Byte) : Statement (.lsDec p) := fun h => by
  have hl : p.length = 10 := by simpa [Instr.wf] using h
  simp [encode, size, hl]
theorem fmSet (id channel : Byte) (min max : Half) : Statement (.fmSet id channel min max) := fun _ => rfl
theorem fmHandle : Statement (.fmHandle) := fun _ => rfl
theorem tlmUpdate (now : Word) : Statement (.tlmUpdate now) := fun _ => rfl
theorem tlmSendnext : Statement (.tlmSendnext) := fun _ => rfl
theorem frameRcChannelsPacked (payload : List Byte) (checksum : Byte) : Statement (.frameRcChannelsPacked payload checksum) := fun _ => by simp [encode, size]
theorem frameLinkStatistics (payload : List Byte) (checksum : Byte) : Statement (.frameLinkStatistics payload checksum) := fun _ => by simp [encode, size]
theorem frameGps (payload : List Byte) (checksum : Byte) : Statement (.frameGps payload checksum) := fun _ => by simp [encode, size]
theorem frameBattery (payload : List Byte) (checksum : Byte) : Statement (.frameBattery payload checksum) := fun _ => by simp [encode, size]
theorem frameBaroAlt (payload : List Byte) (checksum : Byte) : Statement (.frameBaroAlt payload checksum) := fun _ => by simp [encode, size]
theorem frameAttitude (payload : List Byte) (checksum : Byte) : Statement (.frameAttitude payload checksum) := fun _ => by simp [encode, size]
theorem frameFlightMode (payload : List Byte) (checksum : Byte) : Statement (.frameFlightMode payload checksum) := fun _ => by simp [encode, size]
theorem frameOther (type : Byte) (payload : List Byte) (checksum : Byte) : Statement (.frameOther type payload checksum) := fun _ => by simp [encode, size]

end Sys2Proof.Laws.EncodedSize
end

