-- ==== Sys2Proof/Machine/Pseudo.lean ====
section
/-! DEFINITION. The pseudo-operations of 30_encoding R81 that expand to several operations or to another operation's form.
`RX.FEED` is `State.feed`; `FRAME t, payload` is `buildFrame`. -/

namespace Sys2Proof.Machine

/-- `CRC.FRAME t, {payload}` = `CRC.BLK n+1, {t payload}` (R81). -/
def pseudoCrcFrame (t : Byte) (payload : List Byte) : Instr := .crcBlk (t :: payload)

/-- The 16-bit result `v` of a response `OK be_2(v)`; no other response has one (30 R77). -/
def halfResult : List Byte → Option Half
  | [status, hi, lo] => if status = 0x00 then some (hi ++ lo) else none
  | _ => none

/-- The 16-bit result of the last response the host was given. -/
def State.lastHalf (s : State) : Option Half := s.rsps.getLast?.bind halfResult

/-- `RC.GETUS k` = `RC.GET k -> v`; `RC.TOUS v` (R81): the host issues both operations and gets both responses. Where
RC.GET is answered ILLEGAL (`EN_RC` = 0) there is no `v`, and RC.TOUS is not issued (log 19). -/
def pseudoRcGetus (k : Byte) (s : State) : Host.Outcome State Fault Refusal :=
  match exec (.rcGet k) s with
  | .next t =>
    match t.lastHalf with
    | some v => exec (.rcTous v) t
    | none => .next t
  | .fault f => .fault f
  | .refused r => .refused r

/-- Is the response COMPLETE (30 R77)? -/
def isComplete : Response → Bool
  | .complete _ _ => true
  | .ok _ => false
  | .incomplete => false
  | .rejected _ => false
  | .illegal => false

/-- `PROCESS {bytes}`: RX.FEED up to and including the first byte whose response is COMPLETE; the host drops the rest
(R81, 44 R236 "flush-after-frame"). -/
def pseudoProcess : State → List Byte → State
  | s, [] => s
  | s, b :: bs => if isComplete (rxStep b s).2 then s.receive b else pseudoProcess (s.receive b) bs

end Sys2Proof.Machine
end

