-- ==== Sys2Proof/Laws/Pseudo.lean ====
section
/-! SUPPORT. What the pseudo-operation RC.GETUS does (30_encoding R81). -/

namespace Sys2Proof.Machine

/-- The result of a response `OK be_2(v)` is `v`. -/
theorem halfResult_ok (v : Half) : halfResult (responseBytes (.ok (be2 v))) = some v :=
  congrArg some (half_of_bytes v)

/-- A response given is the last one. -/
theorem lastHalf_answer (s : State) (r : Response) : (s.answer r).lastHalf = halfResult (responseBytes r) := by
  simp [State.lastHalf, State.answer]

/-- With RCU built, RC.GETUS gives two responses, the channel and its microseconds, and changes nothing else. -/
theorem pseudoRcGetus_of_built (k : Byte) (s : State) (h : s.cfg.enRc = true) :
    pseudoRcGetus k s = .next
      ((s.answer (.ok (be2 (chanHalf (s.channel k.toNat))))).answer
        (.ok (be2 (toUs (chanHalf (s.channel k.toNat)))))) := by
  have hc : (s.answer (.ok (be2 (chanHalf (s.channel k.toNat))))).cfg.enRc = true := h
  simp only [pseudoRcGetus, exec, execRcGet, execRcTous, finish, h, if_true, lastHalf_answer, halfResult_ok, hc]

/-- Without RCU, RC.GETUS is answered ILLEGAL once and changes nothing else. -/
theorem pseudoRcGetus_of_absent (k : Byte) (s : State) (h : s.cfg.enRc = false) :
    pseudoRcGetus k s = .next (s.answer .illegal) := by
  have hn : halfResult (responseBytes .illegal) = none := rfl
  simp [pseudoRcGetus, exec, execRcGet, finish, h, lastHalf_answer, hn]

end Sys2Proof.Machine
end

