-- ==== Sys2Proof/Laws/Step.lean ====
section
/-! SUPPORT. Everything an instruction and a step can do, said once. -/

namespace Sys2Proof.Machine

/-- What an operation other than RC.DEC and RX.BYTE leaves: the parameters, the channel registers and flags, the draws and
the host's two streams; and the receiver's registers, but for RX.RST, which leaves it in `IDLE` with `rx_cnt` 0. -/
structure Quiet (s u : State) : Prop where
  cfg : u.cfg = s.cfg
  rcCh : u.rcCh = s.rcCh
  rcValid : u.rcValid = s.rcValid
  rcFailsafe : u.rcFailsafe = s.rcFailsafe
  draws : u.draws = s.draws
  inbox : u.inbox = s.inbox
  rsps : u.rsps = s.rsps
  rx : (u.rxState = s.rxState ∧ u.rxLen = s.rxLen ∧ u.rxType = s.rxType ∧ u.rxCnt = s.rxCnt ∧ u.rxCrc = s.rxCrc ∧
      u.rxBuf = s.rxBuf) ∨ (u.rxState = .idle ∧ u.rxCnt = 0)

/-- What an instruction can do: answer ILLEGAL, answer `ok` after writing its own registers, decode, or feed the receiver. -/
inductive Effect (i : Instr) (s : State) : State → Prop where
  | illegal : Effect i s (s.answer .illegal)
  | quiet (u : State) (r : List Byte) : i.onWire = false → Quiet s u → Effect i s (u.answer (.ok r))
  | decode (p r : List Byte) : i = .rcDec p → Effect i s ((s.loadChannels (unpack p)).answer (.ok r))
  | feed (bs : List Byte) : (i.onWire = true ∨ ∃ b, i = .rxByte b ∧ bs = [b]) → Effect i s (s.feed bs)

/-- An operation of a unit does what the built unit does, or answers ILLEGAL. -/
theorem finish_effect {i : Instr} {s t : State} {built : Bool} (h : Effect i s t) :
    ∃ u, finish built s t = .next u ∧ Effect i s u := by
  cases built
  · exact ⟨_, rfl, .illegal⟩
  · exact ⟨_, rfl, h⟩

/-- Every instruction answers a next state, with one of these effects. -/
theorem exec_effect (i : Instr) (s : State) : ∃ t, exec i s = .next t ∧ Effect i s t := by
  have q : Quiet s s := ⟨rfl, rfl, rfl, rfl, rfl, rfl, rfl, .inl ⟨rfl, rfl, rfl, rfl, rfl, rfl⟩⟩
  cases i
  case rxByte b => exact ⟨_, rfl, .feed [b] (.inr ⟨b, rfl, rfl⟩)⟩
  case rxRst => exact ⟨_, rfl, .quiet _ _ rfl ⟨rfl, rfl, rfl, rfl, rfl, rfl, rfl, .inr ⟨rfl, rfl⟩⟩⟩
  case crcUpd => exact ⟨_, rfl, .quiet _ _ rfl q⟩
  case crcBlk => exact ⟨_, rfl, .quiet _ _ rfl q⟩
  case crcChk => exact ⟨_, rfl, .quiet _ _ rfl q⟩
  case rcDec p => exact finish_effect (.decode p _ rfl)
  case rcEnc => exact finish_effect (.quiet _ _ rfl q)
  case rcTous => exact finish_effect (.quiet _ _ rfl q)
  case rcToraw => exact finish_effect (.quiet _ _ rfl q)
  case rcGet => exact finish_effect (.quiet _ _ rfl q)
  case rcStat => exact finish_effect (.quiet _ _ rfl q)
  case lsDec => exact finish_effect (.quiet _ _ rfl q)
  case fmHandle => exact finish_effect (.quiet _ _ rfl q)
  case tlmSend k =>
    simp only [exec, execTlmSend]
    cases kindOf k <;> exact finish_effect (.quiet _ _ rfl q)
  case frameRcChannelsPacked => exact ⟨_, rfl, .feed _ (.inl rfl)⟩
  case frameLinkStatistics => exact ⟨_, rfl, .feed _ (.inl rfl)⟩
  case frameGps => exact ⟨_, rfl, .feed _ (.inl rfl)⟩
  case frameBattery => exact ⟨_, rfl, .feed _ (.inl rfl)⟩
  case frameBaroAlt => exact ⟨_, rfl, .feed _ (.inl rfl)⟩
  case frameAttitude => exact ⟨_, rfl, .feed _ (.inl rfl)⟩
  case frameFlightMode => exact ⟨_, rfl, .feed _ (.inl rfl)⟩
  case frameOther => exact ⟨_, rfl, .feed _ (.inl rfl)⟩
  all_goals refine finish_effect ?_
  all_goals (try split)
  all_goals exact .quiet _ _ rfl ⟨rfl, rfl, rfl, rfl, rfl, rfl, rfl, .inl ⟨rfl, rfl, rfl, rfl, rfl, rfl⟩⟩

/-- A step, by the host's next input. -/
theorem step_eq (s : State) :
    step s = match s.inbox with
      | [] => .next s
      | i :: rest => runInput i { s with inbox := rest } := rfl

end Sys2Proof.Machine
end

