-- ==== Sys2Proof/Tests/Slice0.lean ====
section
/-! SUPPORT. The model's own tests. Expected values come from spec/95_test_vectors (named by its ids) or are counted by hand
from the rule cited; a witness theorem meets all hypotheses of the obligation it names. -/

set_option maxRecDepth 20000

namespace Sys2Proof.Tests

open Sys2Proof.Machine Sys2Proof.Claims

/-- The state of an outcome. -/
def after (o : Host.Outcome State Fault Refusal) : Option State :=
  match o with
  | .next t => some t
  | .fault _ => none
  | .refused _ => none

/-- The responses of an outcome, from a state that has none. -/
def answers (o : Host.Outcome State Fault Refusal) : Option (List (List Byte)) := (after o).map State.rsps

/-- The instance of the tests with every optional unit left out. -/
def bareConfig : Config :=
  { Params.defaultConfig with
    enRc := false, enTlm := false, enLs := false, enAtt := false, enBaro := false, enBat := false, enGps := false,
    enFm := false, hasAdj := false }

/-- The payload of V-RC-1. -/
def mixed : List Byte :=
  [0xAC, 0x00, 0xDF, 0xC4, 0x01, 0xF0, 0xFF, 0x00, 0x00, 0xB0, 0xAA,
   0xAA, 0xFA, 0x05, 0xC0, 0xD1, 0x47, 0x1F, 0xEE, 0x42, 0xFF, 0x00]

/-- The channels of V-RC-1. -/
def mixedChannels : List Half :=
  [172, 992, 1811, 0, 2047, 1, 1024, 1365, 682, 191, 1792, 1000, 500, 1500, 2000, 7]

/-! ## Well-formedness: an ill-formed term for each check -/

theorem test_wf_refuses_crcBlk : Instr.wf (.crcBlk (List.replicate 256 0)) = false := by decide
theorem test_wf_refuses_crcChk : Instr.wf (.crcChk (List.replicate 256 0) 0) = false := by decide
theorem test_wf_refuses_rcDec : Instr.wf (.rcDec (List.replicate 21 0)) = false := by decide
theorem test_wf_refuses_rcEnc : Instr.wf (.rcEnc (List.replicate 17 0)) = false := by decide
theorem test_wf_refuses_lsDec : Instr.wf (.lsDec (List.replicate 9 0)) = false := by decide
theorem test_wf_refuses_frameRcChannelsPacked : Instr.wf (.frameRcChannelsPacked (List.replicate 61 0) 0) = false := by decide
theorem test_wf_refuses_frameLinkStatistics : Instr.wf (.frameLinkStatistics (List.replicate 61 0) 0) = false := by decide
theorem test_wf_refuses_frameGps : Instr.wf (.frameGps (List.replicate 61 0) 0) = false := by decide
theorem test_wf_refuses_frameBattery : Instr.wf (.frameBattery (List.replicate 61 0) 0) = false := by decide
theorem test_wf_refuses_frameBaroAlt : Instr.wf (.frameBaroAlt (List.replicate 61 0) 0) = false := by decide
theorem test_wf_refuses_frameAttitude : Instr.wf (.frameAttitude (List.replicate 61 0) 0) = false := by decide
theorem test_wf_refuses_frameFlightMode : Instr.wf (.frameFlightMode (List.replicate 61 0) 0) = false := by decide
theorem test_wf_refuses_frameOther_long : Instr.wf (.frameOther 0x01 (List.replicate 61 0) 0) = false := by decide
theorem test_wf_refuses_frameOther_named : Instr.wf (.frameOther 0x16 [] 0) = false := by decide
theorem test_wf_accepts_longest : Instr.wf (.frameOther 0x7F (List.replicate 60 0) 0) = true := by decide

/-! ## Decoding: one word per constructor, written out from R75, R76, R70 and R72 -/

theorem test_decode_crcUpd : decode [0x10, 0xFF, 0x00] = .ok (.crcUpd 0xFF 0x00) := by decide
theorem test_decode_crcBlk : decode [0x11, 0x03, 0x00, 0x00, 0x16] = .ok (.crcBlk [0x00, 0x00, 0x16]) := by decide
theorem test_decode_crcChk : decode [0x12, 0x02, 0xAA, 0xBB, 0x3F] = .ok (.crcChk [0xAA, 0xBB] 0x3F) := by decide
theorem test_decode_rxByte : decode [0x20, 0xC8] = .ok (.rxByte 0xC8) := by decide
theorem test_decode_rxRst : decode [0x21] = .ok .rxRst := by decide
theorem test_decode_rcDec : decode (0x30 :: mixed) = .ok (.rcDec mixed) := by decide
theorem test_decode_rcEnc : decode [0x31, 0x00, 0xAC, 0x03, 0xE0, 0x07, 0x13, 0x00, 0x00, 0x07, 0xFF, 0x00, 0x01, 0x04, 0x00,
    0x05, 0x55, 0x02, 0xAA, 0x00, 0xBF, 0x07, 0x00, 0x03, 0xE8, 0x01, 0xF4, 0x05, 0xDC, 0x07, 0xD0, 0x00, 0x07] =
    .ok (.rcEnc mixedChannels) := by decide
theorem test_decode_rcTous : decode [0x32, 0x03, 0xE0] = .ok (.rcTous 992) := by decide
theorem test_decode_rcToraw : decode [0x33, 0x05, 0xDC] = .ok (.rcToraw 1500) := by decide
theorem test_decode_rcGet : decode [0x34, 0x0F] = .ok (.rcGet 15) := by decide
theorem test_decode_rcStat : decode [0x35] = .ok .rcStat := by decide
theorem test_decode_tlmSetatt : decode [0x40, 0x00, 0x64, 0xFF, 0x38, 0x07, 0x08] = .ok (.tlmSetatt 100 (-200) 1800) := by decide
theorem test_decode_tlmSetbaro : decode [0x41, 0x00, 0x00, 0x04, 0xD2, 0xFF, 0x6A] = .ok (.tlmSetbaro 1234 (-150)) := by decide
theorem test_decode_tlmSetbat : decode [0x42, 0x06, 0x90, 0x04, 0xD2, 0x00, 0x00, 0x05, 0xDC, 0x57] = .ok (.tlmSetbat 1680 1234 1500 87) := by decide
theorem test_decode_tlmSetgps : decode [0x43, 0x1C, 0x40, 0x50, 0xA8, 0xB7, 0x15, 0xD8, 0xD8, 0x00, 0x00, 0x30, 0x39, 0x05, 0xDC, 0x0A, 0x8C, 0x0C] = .ok (.tlmSetgps 473977000 (-1223305000) 12345 1500 2700 12) := by decide
theorem test_decode_tlmSetfm : decode [0x44, 0x05, 0x80] = .ok (.tlmSetfm 5 0x80) := by decide
theorem test_decode_tlmSend : decode [0x48, 0x02] = .ok (.tlmSend 2) := by decide
theorem test_decode_lsDec : decode [0x50, 0x46, 0x48, 0x64, 0x0A, 0x00, 0x02, 0x03, 0x50, 0x5F, 0xF6] = .ok (.lsDec [0x46, 0x48, 0x64, 0x0A, 0x00, 0x02, 0x03, 0x50, 0x5F, 0xF6]) := by decide
theorem test_decode_fmSet : decode [0x60, 0x05, 0x04, 0x03, 0x84, 0x04, 0x4C] = .ok (.fmSet 5 4 900 1100) := by decide
theorem test_decode_fmHandle : decode [0x61] = .ok .fmHandle := by decide
theorem test_decode_tlmUpdate : decode [0x70, 0x00, 0x00, 0x01, 0x4A] = .ok (.tlmUpdate 330) := by decide
theorem test_decode_tlmSendnext : decode [0x71] = .ok .tlmSendnext := by decide
/-- V-RX-10 -/
theorem test_decode_frameRcChannelsPacked :
    decodeFrame [0xC8, 0x05, 0x16, 0x01, 0x02, 0x03, 0xDA] =
      .ok (.frameRcChannelsPacked [0x01, 0x02, 0x03] 0xDA) := by decide
/-- V-RX-11 -/
theorem test_decode_frameLinkStatistics :
    decodeFrame [0xC8, 0x0C, 0x14, 0x46, 0x48, 0x64, 0x0A, 0x00, 0x02, 0x03, 0x50, 0x5F, 0xF6, 0x37] =
      .ok (.frameLinkStatistics [0x46, 0x48, 0x64, 0x0A, 0x00, 0x02, 0x03, 0x50, 0x5F, 0xF6] 0x37) := by decide
/-- V-TLM-16 -/
theorem test_decode_frameGps :
    decodeFrame [0xC8, 0x11, 0x02, 0x1C, 0x40, 0x50, 0xA8, 0xB7, 0x15, 0xD8, 0xD8, 0x02, 0x1C, 0x69, 0x78, 0x04, 0x63, 0x0C, 0x63] =
      .ok (.frameGps [0x1C, 0x40, 0x50, 0xA8, 0xB7, 0x15, 0xD8, 0xD8, 0x02, 0x1C, 0x69, 0x78, 0x04, 0x63, 0x0C] 0x63) := by decide
/-- V-TLM-13 -/
theorem test_decode_frameBattery :
    decodeFrame [0xC8, 0x0A, 0x08, 0x00, 0xA8, 0x00, 0x7B, 0x00, 0x05, 0xDC, 0x57, 0xAC] =
      .ok (.frameBattery [0x00, 0xA8, 0x00, 0x7B, 0x00, 0x05, 0xDC, 0x57] 0xAC) := by decide
/-- V-TLM-12 -/
theorem test_decode_frameBaroAlt :
    decodeFrame [0xC8, 0x06, 0x09, 0x2B, 0xE2, 0xFF, 0x6A, 0x66] =
      .ok (.frameBaroAlt [0x2B, 0xE2, 0xFF, 0x6A] 0x66) := by decide
/-- V-TLM-10 -/
theorem test_decode_frameAttitude :
    decodeFrame [0xC8, 0x08, 0x1E, 0xF2, 0x5E, 0x06, 0xD1, 0x7A, 0xB7, 0xBA] =
      .ok (.frameAttitude [0xF2, 0x5E, 0x06, 0xD1, 0x7A, 0xB7] 0xBA) := by decide
/-- V-TLM-27 -/
theorem test_decode_frameFlightMode :
    decodeFrame [0xC8, 0x06, 0x21, 0x41, 0x49, 0x52, 0x00, 0x3F] =
      .ok (.frameFlightMode [0x41, 0x49, 0x52, 0x00] 0x3F) := by decide
/-- V-RX-2 -/
theorem test_decode_frameOther :
    decodeFrame [0xC8, 0x02, 0x3A, 0xA0] =
      .ok (.frameOther 0x3A [] 0xA0) := by decide

/-! ## Decoding refuses by name (60 R254, 95 "Illegal commands"; R70) -/

theorem test_decode_refuses_empty : decode [] = .error .emptyCommand := by decide
theorem test_decode_refuses_codes :
    [0x00, 0xFF, 0x13, 0x22, 0x36, 0x45, 0x49, 0x51, 0x62, 0x72].all (fun c => opcodeOf c == none) = true := by decide
theorem test_decode_refuses_short : decode [0x20] = .error (.badCommandLength 0x20) := by decide
theorem test_decode_refuses_long : decode [0x20, 0x01, 0x02] = .error (.badCommandLength 0x20) := by decide
theorem test_decode_refuses_count : decode [0x11, 0x03, 0x01, 0x02] = .error (.badCommandLength 0x11) := by decide
theorem test_decode_refuses_no_checksum : decode [0x12, 0x00] = .error (.badCommandLength 0x12) := by decide
theorem test_decodeFrame_refuses_sync : decodeFrame [0xEA, 0x02, 0x3A, 0xA0] = .error (.badSync 0xEA) := by decide
theorem test_decodeFrame_refuses_lengths :
    decodeFrame [0xC8, 0x01, 0x3A] = .error (.badFrameLength 0x01) ∧
    decodeFrame [0xC8, 0x3F, 0x3A] = .error (.badFrameLength 0x3F) ∧
    decodeFrame [0xC8, 0x03, 0x3A, 0xA0] = .error (.badFrameSize 0x03) ∧
    decodeFrame [0xC8, 0x02] = .error .shortFrame := by decide

/-! ## The table's words (log 12) -/

theorem test_tableWord_command : decodeTableWord 8 0x60 = some (.fmSet 0 0 0 0) := by decide
theorem test_tableWord_frame :
    decodeTableWord 8 0x09 = some (.frameBaroAlt [0, 0, 0, 0] (crc8 Params.defaultConfig [0x09, 0, 0, 0, 0])) := by decide
theorem test_tableWord_other : decodeTableWord 0 0x00 = some (.frameOther 0x00 [] 0x00) := by decide
/-- The one word two rows share: RX.RST in the command space, FRAME.FLIGHT_MODE in the wire space. -/
theorem test_tableWord_shared : decodeTableWord 8 0x21 = some .rxRst := by decide
theorem test_withFetchWord_runs : answers (step (State.reset.withFetchWord 8 0x35)) = some [[0x00, 0x00]] := by decide
theorem test_step_empty_inbox : step State.reset = .next State.reset := by rfl
/-- A command nobody decodes is answered ILLEGAL (60 R254). -/
theorem test_step_illegal : answers (step (State.reset.present (.command [0x13]))) = some [[0xFF]] := by decide
/-- V-RX-4: stream bytes that are no frame go to RX.BYTE. -/
theorem test_step_stream : answers (step (State.reset.present (.stream [0xC8, 0x3F]))) = some [[0x01], [0x03, 0x01]] := by decide

/-! ## One instruction each, from reset: 95_test_vectors -/

/-- V-CRC-2 -/
theorem test_crcUpd : answers (exec (.crcUpd 0x00 0x01) State.reset) =
    some [[0x00, 0xD5]] := by decide
/-- V-CRC-6 -/
theorem test_crcUpd_both : answers (exec (.crcUpd 0xFF 0x00) State.reset) =
    some [[0x00, 0xF9]] := by decide
/-- V-CRC-8 -/
theorem test_crcBlk : answers (exec (.crcBlk [0x31, 0x32, 0x33, 0x34, 0x35, 0x36, 0x37, 0x38, 0x39]) State.reset) =
    some [[0x00, 0xBC]] := by decide
/-- V-CRC-7 -/
theorem test_crcBlk_empty : answers (exec (.crcBlk []) State.reset) =
    some [[0x00, 0x00]] := by decide
/-- V-CRC-13 -/
theorem test_crcChk : answers (exec (.crcChk [0x21, 0x41, 0x49, 0x52, 0x00] 0x3F) State.reset) =
    some [[0x00, 0x01]] := by decide
/-- V-CRC-14 -/
theorem test_crcChk_mismatch : answers (exec (.crcChk [0x21, 0x41, 0x49, 0x52, 0x00] 0x3E) State.reset) =
    some [[0x00, 0x00]] := by decide
/-- R124, R125: 62 is the longest length, 63 is refused with BAD_LENGTH. -/
theorem test_rxByte_length_bounds :
    (after (exec (.rxByte 62) { State.reset with rxState := .awaitLen })).map State.rxState = some .awaitType ∧
    answers (exec (.rxByte 63) { State.reset with rxState := .awaitLen }) = some [[0x03, 0x01]] := by decide
/-- R127: the last payload byte is stored at `rx_cnt` and leads to AWAIT_CRC. -/
theorem test_rxByte_last_payload :
    (after (exec (.rxByte 0xA5) { State.reset with rxState := .payload, rxLen := 5, rxCnt := 2 })).map
      (fun t => (t.rxState, t.rxCnt, t.rxBuf[2], t.rxBuf[1])) = some (.awaitCrc, 3, 0xA5, 0x00) := by decide
/-- V-RX-15, R135: the restart clears three registers and answers OK. -/
theorem test_rxRst :
    (after (exec .rxRst { State.reset with rxState := .payload, rxCnt := 7, rxCrc := 0x44, rxLen := 24 })).map
      (fun t => (t.rxState, t.rxCnt, t.rxCrc, t.rxLen, t.rsps)) = some (.idle, 0, 0x00, 24, [[0x00]]) := by decide
/-- V-RC-2 -/
theorem test_rcDec : answers (exec (.rcDec mixed) State.reset) =
    some [[0x00, 0x00, 0xAC, 0x03, 0xE0, 0x07, 0x13, 0x00, 0x00, 0x07, 0xFF, 0x00, 0x01, 0x04, 0x00, 0x05, 0x55, 0x02, 0xAA, 0x00, 0xBF, 0x07, 0x00, 0x03, 0xE8, 0x01, 0xF4, 0x05, 0xDC, 0x07, 0xD0, 0x00, 0x07]] := by decide
/-- V-RC-7 and 10 R23: channel 1 alone, and `rc_valid` set. -/
theorem test_rcDec_registers :
    (after (exec (.rcDec ([0x00, 0xF8, 0x3F] ++ List.replicate 19 0)) State.reset)).map
      (fun t => (t.rcCh[0], t.rcCh[1], t.rcCh[2], t.rcValid, t.draws)) = some (0, 2047, 0, true, 1) := by decide
/-- V-RC-1 -/
theorem test_rcEnc : answers (exec (.rcEnc mixedChannels) State.reset) =
    some [[0x00, 0xAC, 0x00, 0xDF, 0xC4, 0x01, 0xF0, 0xFF, 0x00, 0x00, 0xB0, 0xAA, 0xAA, 0xFA, 0x05, 0xC0, 0xD1, 0x47, 0x1F, 0xEE, 0x42, 0xFF, 0x00]] := by decide
/-- V-RC-11 -/
theorem test_rcEnc_truncates : answers (exec (.rcEnc ([0x0800, 0xFFFF] ++ List.replicate 14 0)) State.reset) =
    some [[0x00, 0x00, 0xF8, 0x3F, 0x00, 0x00, 0x00, 0x00, 0x00, 0x00, 0x00, 0x00, 0x00, 0x00, 0x00, 0x00, 0x00, 0x00, 0x00, 0x00, 0x00, 0x00, 0x00]] := by decide
/-- 95 RCU: 992 is 1501 -/
theorem test_rcTous : answers (exec (.rcTous 992) State.reset) =
    some [[0x00, 0x05, 0xDD]] := by decide
/-- 95 RCU: 65535 is 41825 -/
theorem test_rcTous_top : answers (exec (.rcTous 65535) State.reset) =
    some [[0x00, 0xA3, 0x61]] := by decide
/-- R166: the near-tie 1393 is 820 -/
theorem test_rcToraw : answers (exec (.rcToraw 1393) State.reset) =
    some [[0x00, 0x03, 0x34]] := by decide
/-- R165: 880 and 41826 saturate; 881 and 41825 are 0 and 65534. -/
theorem test_rcToraw_saturates :
    [880, 881, 41825, 41826].map (fun us => answers (exec (.rcToraw us) State.reset)) =
      [some [[0x00, 0x00, 0x00]], some [[0x00, 0x00, 0x00]], some [[0x00, 0xFF, 0xFE]], some [[0x00, 0xFF, 0xFF]]] := by decide
/-- S4: the last channel (RC_INIT = 992 here) -/
theorem test_rcGet : answers (exec (.rcGet 15) State.reset) =
    some [[0x00, 0x03, 0xE0]] := by decide
/-- S4: 16 is the sentinel -/
theorem test_rcGet_sentinel : answers (exec (.rcGet 16) State.reset) =
    some [[0x00, 0x00, 0x00]] := by decide
/-- 95 RCU: RC.STAT after reset -/
theorem test_rcStat_reset : answers (exec .rcStat State.reset) =
    some [[0x00, 0x00]] := by decide
/-- R172: valid is bit 0, failsafe bit 1 -/
theorem test_rcStat_both : answers (exec .rcStat { State.reset with rcValid := true, rcFailsafe := true }) =
    some [[0x00, 0x03]] := by decide
/-- R182: three registers in operand order. -/
theorem test_tlmSetatt :
    (after (exec (.tlmSetatt 100 (-200) 1800) State.reset)).map (fun t => (t.attRoll, t.attPitch, t.attYaw, t.rsps)) =
      some (100, -200, 1800, [[0x00]]) := by decide
/-- R183 -/
theorem test_tlmSetbaro :
    (after (exec (.tlmSetbaro 1234 (-150)) State.reset)).map (fun t => (t.baroAlt, t.baroVario, t.rsps)) =
      some (1234, -150, [[0x00]]) := by decide
/-- R184 -/
theorem test_tlmSetbat :
    (after (exec (.tlmSetbat 1680 1234 1500 87) State.reset)).map
      (fun t => (t.batVoltage, t.batCurrent, t.batFuel, t.batPercent)) = some (1680, 1234, 1500, 87) := by decide
/-- R185 -/
theorem test_tlmSetgps :
    (after (exec (.tlmSetgps 1 2 3 4 5 6) State.reset)).map
      (fun t => (t.gpsLat, t.gpsLon, t.gpsAlt, t.gpsSpeed, t.gpsCourse, t.gpsSats)) = some (1, 2, 3, 4, 5, 6) := by decide
/-- 95 TFE: TLM.SETFM 5, 0x80 takes armed as 1. -/
theorem test_tlmSetfm :
    (after (exec (.tlmSetfm 5 0x80) State.reset)).map (fun t => (t.fmId, t.fmArmed, t.rsps)) =
      some (5, true, [[0x00, 0x01]]) := by decide
/-- 95 TFE: TLM.SETFM 8, 0 stages nothing. -/
theorem test_tlmSetfm_out_of_range :
    (after (exec (.tlmSetfm 8 0) { State.reset with fmId := 3 })).map (fun t => (t.fmId, t.rsps)) =
      some (3, [[0x00, 0x00]]) := by decide
/-- V-TLM-16: a frame from staged values. -/
theorem test_tlmSend_gps :
    answers (exec (.tlmSend 3) (State.reset.stageGps 473977000 (-1223305000) 12345 1500 2700 12)) =
      some [[0x00, 0xC8, 0x11, 0x02, 0x1C, 0x40, 0x50, 0xA8, 0xB7, 0x15, 0xD8, 0xD8, 0x02, 0x1C, 0x69, 0x78, 0x04, 0x63,
        0x0C, 0x63]] := by decide
/-- 95 TFE: TLM.SEND 5 is an empty result. -/
theorem test_tlmSend_no_kind : answers (exec (.tlmSend 5) State.reset) = some [[0x00]] := by decide
/-- V-TLM-1, V-TLM-2: wrapping at the ends of the 16-bit range, truncation toward zero. -/
theorem test_attConv :
    ([1, -1, 1801, 32767, -32768] : List Half).map attConv = [17, -17, -31398, 6405, -6422] := by decide
/-- V-TLM-3 -/
theorem test_altPacked :
    [-10001, -9999, 22767, 22768, 22775, 327655, 327656].map altPacked =
      [0x0000, 0x0001, 0x7FFF, 0x88E5, 0x88E6, 0xFFFE, 0xFFFE] := by decide
/-- V-TLM-15 and V-TLM-19: rounding, saturation and floor division. -/
theorem test_payloads :
    payloadBat 14 15 0x01000000 100 = [0x00, 0x01, 0x00, 0x02, 0xFF, 0xFF, 0xFF, 0x64] ∧
    payloadGps 0 0 (-101) 2 65535 0 = [0, 0, 0, 0, 0, 0, 0, 0, 0x00, 0x01, 0x1C, 0xB6, 0x03, 0xE6, 0x00] := by decide
/-- V-TLM-22, both columns. -/
theorem test_payloadFm :
    payloadFm false 2 false = [0x21, 0x46, 0x53, 0x21, 0x2A, 0x00] ∧
    payloadFm false 2 true = [0x21, 0x46, 0x53, 0x21, 0x00] := by decide
/-- V-LS-1 -/
theorem test_lsDec : answers (exec (.lsDec [0x46, 0x48, 0x64, 0x0A, 0x00, 0x02, 0x03, 0x50, 0x5F, 0xF6]) State.reset) =
    some [[0x00, 0x46, 0x48, 0x64, 0x0A, 0x00, 0x02, 0x03, 0x50, 0x5F, 0xF6]] := by decide
/-- V-FM-1 and V-FM-2: the slot written, and the refused channel 16 that leaves it. -/
theorem test_fmSet :
    (after (exec (.fmSet 5 4 900 1100) State.reset)).map (fun t => (t.fmSlot[5], t.fmSlot[4].min, t.rsps)) =
      some ({ channel := 4, min := 900, max := 1100 }, 0xFFFF, [[0x00, 0x01]]) := by decide
theorem test_fmSet_refused :
    [(7, 15), (8, 15), (7, 16)].map (fun (p : Byte × Byte) => answers (exec (.fmSet p.1 p.2 0 2047) State.reset)) =
      [some [[0x00, 0x01]], some [[0x00, 0x00]], some [[0x00, 0x00]]] := by decide
/-- S6: of two slots that match the lower identifier wins. -/
theorem test_fmHandle :
    answers (exec .fmHandle ((State.reset.setSlot 6 { channel := 4, min := 900, max := 1200 }).setSlot 5
      { channel := 4, min := 992, max := 992 })) = some [[0x00, 0x01, 0x05]] := by decide
/-- V-FM-4 -/
theorem test_fmHandle_none : answers (exec .fmHandle State.reset) =
    some [[0x00, 0x00]] := by decide
/-- V-SCH-1: elapsed time modulo 2^32, just before and at the interval. -/
theorem test_tlmUpdate :
    [4, 5].map (fun now => answers (exec (.tlmUpdate now)
      { State.resetWith { Params.defaultConfig with tlmInterval := 10 } with tlmLast := 0xFFFFFFFB })) =
      [some [[0x00, 0x00]], some [[0x00, 0x01]]] := by decide
/-- P4: `tlm_last` becomes `now`. -/
theorem test_tlmUpdate_register : (after (exec (.tlmUpdate 100) State.reset)).map State.tlmLast = some 100 := by decide
/-- P4: the second frame of the rotation is the barometer's, and GPS is next after the battery. -/
theorem test_tlmSendnext :
    answers (exec .tlmSendnext { State.reset with tlmIdx := 1 }) =
      some [[0x00, 0xC8, 0x06, 0x09, 0x27, 0x10, 0x00, 0x00, 0xB3]] := by decide
theorem test_tlmSendnext_skips :
    (after (exec .tlmSendnext { State.resetWith { Params.defaultConfig with enFm := false, enAtt := false } with
      tlmIdx := 4 })).map State.tlmIdx = some 2 := by decide
/-- V-RX-10: RC type with another length is not routed -/
theorem test_frameRc_short : answers (exec (.frameRcChannelsPacked [0x01, 0x02, 0x03] 0xDA) State.reset) =
    some (List.replicate 6 [0x01] ++ [[0x02, 0x00, 0x05, 0x16, 0x01, 0x02, 0x03, 0xDA]]) := by decide
/-- P1: the channels a routed RC frame leaves. -/
theorem test_frameRc :
    (after (exec (.frameRcChannelsPacked mixed 0x44) State.reset)).map
      (fun t => (t.rcCh[0], t.rcCh[4], t.rcCh[15], t.rcValid, t.rxState)) = some (172, 2047, 7, true, .idle) := by decide
/-- V-RX-11 fed to the receiver -/
theorem test_frameLs : answers (exec (.frameLinkStatistics [0x46, 0x48, 0x64, 0x0A, 0x00, 0x02, 0x03, 0x50, 0x5F, 0xF6] 0x37) State.reset) =
    some (List.replicate 13 [0x01] ++ [[0x02, 0x02, 0x0C, 0x14, 0x46, 0x48, 0x64, 0x0A, 0x00, 0x02, 0x03, 0x50, 0x5F, 0xF6, 0x37]]) := by decide
/-- V-TLM-16 fed to the receiver -/
theorem test_frameGps : answers (exec (.frameGps [0x1C, 0x40, 0x50, 0xA8, 0xB7, 0x15, 0xD8, 0xD8, 0x02, 0x1C, 0x69, 0x78, 0x04, 0x63, 0x0C] 0x63) State.reset) =
    some (List.replicate 18 [0x01] ++ [[0x02, 0x00, 0x11, 0x02, 0x1C, 0x40, 0x50, 0xA8, 0xB7, 0x15, 0xD8, 0xD8, 0x02, 0x1C, 0x69, 0x78, 0x04, 0x63, 0x0C, 0x63]]) := by decide
/-- V-TLM-13 fed to the receiver -/
theorem test_frameBattery : answers (exec (.frameBattery [0x00, 0xA8, 0x00, 0x7B, 0x00, 0x05, 0xDC, 0x57] 0xAC) State.reset) =
    some (List.replicate 11 [0x01] ++ [[0x02, 0x00, 0x0A, 0x08, 0x00, 0xA8, 0x00, 0x7B, 0x00, 0x05, 0xDC, 0x57, 0xAC]]) := by decide
/-- V-TLM-12 fed to the receiver -/
theorem test_frameBaroAlt : answers (exec (.frameBaroAlt [0x2B, 0xE2, 0xFF, 0x6A] 0x66) State.reset) =
    some (List.replicate 7 [0x01] ++ [[0x02, 0x00, 0x06, 0x09, 0x2B, 0xE2, 0xFF, 0x6A, 0x66]]) := by decide
/-- V-TLM-10 fed to the receiver -/
theorem test_frameAttitude : answers (exec (.frameAttitude [0xF2, 0x5E, 0x06, 0xD1, 0x7A, 0xB7] 0xBA) State.reset) =
    some (List.replicate 9 [0x01] ++ [[0x02, 0x00, 0x08, 0x1E, 0xF2, 0x5E, 0x06, 0xD1, 0x7A, 0xB7, 0xBA]]) := by decide
/-- V-TLM-27 fed to the receiver -/
theorem test_frameFlightMode : answers (exec (.frameFlightMode [0x41, 0x49, 0x52, 0x00] 0x3F) State.reset) =
    some (List.replicate 7 [0x01] ++ [[0x02, 0x00, 0x06, 0x21, 0x41, 0x49, 0x52, 0x00, 0x3F]]) := by decide
/-- V-RX-2 fed to the receiver -/
theorem test_frameOther : answers (exec (.frameOther 0x3A [] 0xA0) State.reset) =
    some (List.replicate 3 [0x01] ++ [[0x02, 0x00, 0x02, 0x3A, 0xA0]]) := by decide
/-- R129: a wrong last byte -/
theorem test_frameOther_corrupt : answers (exec (.frameOther 0x3A [] 0xA1) State.reset) =
    some (List.replicate 3 [0x01] ++ [[0x03, 0x02]]) := by decide
/-- 95 "Illegal commands": an operation of a unit that is not built. -/
theorem test_unit_not_built :
    [Instr.rcGet 0, .fmHandle, .tlmSend 0, .lsDec (List.replicate 10 0)].map
      (fun i => answers (exec i (State.resetWith bareConfig))) =
      [some [[0xFF]], some [[0xFF]], some [[0xFF]], some [[0xFF]]] := by decide
/-- R280: re-initialising puts the registers back and leaves the host's responses. -/
theorem test_reset_input :
    (after (step { State.reset with rcValid := true, attRoll := 5, rsps := [[0x00]], inbox := [.reset] })).map
      (fun t => (t.rcValid, t.attRoll, t.rsps, t.inbox)) = some (false, 0, [[0x00]], []) := by decide
/-- R81 PROCESS: the bytes after the first complete frame are dropped. -/
theorem test_pseudoProcess :
    (pseudoProcess State.reset [0xC8, 0x02, 0x3A, 0xA0, 0xC8]).rsps =
      [[0x01], [0x01], [0x01], [0x02, 0x00, 0x02, 0x3A, 0xA0]] := by decide
/-- R81 CRC.FRAME. -/
theorem test_pseudoCrcFrame : pseudoCrcFrame 0x21 [0x41] = .crcBlk [0x21, 0x41] := by decide
/-- R81 RC.GETUS: both responses (992 is 1501 microseconds; 16 is the sentinel 0, 881), and ILLEGAL when `EN_RC` = 0. -/
theorem test_pseudoRcGetus :
    answers (pseudoRcGetus 3 State.reset) = some [[0x00, 0x03, 0xE0], [0x00, 0x05, 0xDD]] ∧
    answers (pseudoRcGetus 16 State.reset) = some [[0x00, 0x00, 0x00], [0x00, 0x03, 0x71]] ∧
    answers (pseudoRcGetus 3 (State.resetWith bareConfig)) = some [[0xFF]] := by decide

/-! ## Witnesses: all hypotheses of an obligation met together, and each clause at the edges of its range -/

/-- The receiver inside the payload of a frame of length 5, two bytes short of its last. -/
def midPayload : State := State.reset.feed [0xC8, 0x05, 0x16, 0x01]

/-- The receiver before the last payload byte of that frame. -/
def lastPayload : State := midPayload.receive 0x02

/-- The receiver before the checksum byte of that frame. -/
def beforeChecksum : State := lastPayload.receive 0x03

/-- The receiver before the checksum byte of an RC frame of length 24. -/
def beforeRcChecksum : State := State.reset.feed ([0xC8, 0x18, 0x16] ++ mixed)

theorem witness_DecodeOfEncodeIsTheInstruction :
    Instr.wf (.crcBlk (List.replicate 255 0)) = true ∧ Instr.wf (.crcBlk []) = true ∧ Instr.wf (.rcDec mixed) = true ∧
    Instr.wf (.frameOther 0x7F (List.replicate 60 0) 0) = true ∧ Instr.wf (.frameGps [] 0) = true := by decide
theorem witness_EncodeOfDecodeIsTheInput :
    decodeInput (.command [0x70, 0x00, 0x00, 0x01, 0x4A]) = .ok (.tlmUpdate 330) ∧
    decodeInput (.stream [0xC8, 0x02, 0x3A, 0xA0]) = .ok (.frameOther 0x3A [] 0xA0) := by decide
theorem witness_CommandDecodesExactlyWhenARowAcceptsIt :
    Accepted [0x11, 0x00] ∧ Accepted [0x35] ∧ ¬ Accepted [] ∧ ¬ Accepted [0x13] ∧ ¬ Accepted [0x11, 0x01] := by
  unfold Accepted; decide
theorem witness_IllegalCommandsChangeNothing_command :
    ¬ Accepted [] ∧ ¬ Accepted [0xFF] ∧ ¬ Accepted [0x20] ∧ ¬ Accepted [0x20, 0x01, 0x02] := by
  unfold Accepted; decide
theorem witness_IllegalCommandsChangeNothing_unit :
    [Instr.rcStat, .tlmSend 4, .tlmSend 5, .lsDec [], .tlmUpdate 0].all (fun i => unitAbsent bareConfig i) = true ∧
    unitAbsent { Params.defaultConfig with enBat := false } (.tlmSend 2) = true ∧
    unitAbsent { Params.defaultConfig with enBat := false } (.tlmSend 1) = false := by decide
theorem witness_StepRunsTheDecodedInstruction :
    (State.reset.present (.command [0x35])).inbox = .command [0x35] :: [] ∧
    decodeInput (.command [0x35]) = .ok .rcStat := by decide
theorem witness_StepOnOtherInputs :
    (State.reset.present (.command [0x13])).inbox = .command [0x13] :: [] ∧
    (State.reset.present (.stream [0x00, 0x55])).inbox = .stream [0x00, 0x55] :: [] ∧
    (∀ i, decodeFrame [0x00, 0x55] ≠ .ok i) ∧ State.reset.inbox = [] ∧
    (State.reset.present .reset).inbox = .reset :: [] :=
  ⟨by decide, by decide, fun i h => by simp [decodeFrame] at h, by decide, by decide⟩
theorem witness_OneResponsePerOperation :
    (Instr.rxByte 0xC8).onWire = false ∧ (∃ b, Instr.rxByte 0xC8 = .rxByte b) ∧
    Instr.rcStat.onWire = false ∧ (∀ b, Instr.rcStat ≠ .rxByte b) :=
  ⟨by decide, ⟨_, rfl⟩, by decide, fun b h => by cases h⟩
/-- The premises of the first clause, with both causes. -/
theorem witness_RejectedIsRaisedExactlyThere :
    answers (exec (.rxByte 63) { State.reset with rxState := .awaitLen }) = some [0x03 :: [0x01]] ∧
    answers (exec (.rxByte 1) { State.reset with rxState := .awaitLen }) = some [0x03 :: [0x01]] ∧
    answers (exec (.rxByte 1) { State.reset with rxState := .awaitCrc }) = some [0x03 :: [0x02]] ∧
    (1 : Byte) ≠ ({ State.reset with rxState := .awaitCrc } : State).rxCrc := by decide
theorem witness_ResetAsTheHostSeesIt :
    allBuilt Params.defaultConfig = true ∧ 0 < Params.defaultConfig.tlmInterval.toNat ∧
    Params.defaultConfig.crcPoly = 0xD5 ∧ Params.defaultConfig.crcInit = 0x00 := by decide
theorem witness_midPayload_rxInv : midPayload.RxInv ∧ midPayload.rxState = .payload :=
  ⟨And.intro (by decide) (And.intro (by decide) (by decide)), by decide⟩
theorem witness_lastPayload_rxInv : lastPayload.RxInv ∧ lastPayload.rxState = .payload :=
  ⟨And.intro (by decide) (And.intro (by decide) (by decide)), by decide⟩
/-- A state with the invariant, from which a step answers a next state. -/
theorem witness_EveryStepKeepsTheInvariant :
    (midPayload.present (.stream [0x02])).Inv ∧
    ∃ t, step (midPayload.present (.stream [0x02])) = .next t ∧ t.rxState = .payload :=
  ⟨And.intro (And.intro (by decide) (And.intro (by decide) (by decide))) (fun _ => And.intro (by decide) (by decide)),
    _, rfl, by decide⟩
/-- The "Encoding" clauses are about a command of the same code and another length; the "ILLEGAL" clauses about an instance
without the unit. -/
theorem witness_Encoded_and_Illegal :
    ([0x10, 0x00] : List Byte).head? = ([0x10, 0xFF, 0x00] : List Byte).head? ∧
    ([0x10, 0x00] : List Byte).length ≠ ([0x10, 0xFF, 0x00] : List Byte).length ∧
    (State.resetWith bareConfig).cfg.enRc = false ∧ (State.resetWith bareConfig).cfg.enTlm = false ∧
    (State.resetWith bareConfig).cfg.enAtt = false ∧ (State.resetWith bareConfig).cfg.enBaro = false ∧
    (State.resetWith bareConfig).cfg.enBat = false ∧ (State.resetWith bareConfig).cfg.enGps = false ∧
    (State.resetWith bareConfig).cfg.enFm = false ∧ (State.resetWith bareConfig).cfg.enLs = false ∧
    (State.resetWith bareConfig).cfg.hasAdj = false := by decide
/-- The longest block, and commands whose count byte is not the number of their data bytes. -/
theorem witness_CrcBlkFoldsTheStep :
    (List.replicate 255 (0 : Byte)).length ≤ 255 ∧ ([] : List Byte).length ≤ 255 ∧
    ([0x11, 0x01] : List Byte).head? = some 0x11 ∧
    ([0x11, 0x01] : List Byte).length ≠ 2 + (([0x11, 0x01] : List Byte).getD 1 0).toNat ∧
    ([0x12, 0x00] : List Byte).head? = some 0x12 ∧
    ([0x12, 0x00] : List Byte).length ≠ 3 + (([0x12, 0x00] : List Byte).getD 1 0).toNat := by decide
theorem witness_CrcUpdIsTheReferenceTable : State.reset.cfg.crcPoly = 0xD5 := by decide
theorem witness_CrcChkTestsTheChecksum :
    State.reset.cfg.crcPoly.getLsbD 0 = true ∧ crc8 State.reset.cfg [0x21, 0x41, 0x49, 0x52, 0x00] = 0x3F ∧
    crc8 State.reset.cfg [0x21, 0x41, 0x49, 0x52, 0x00, 0x3F] = 0 := by decide
theorem witness_SingleBitErrorChangesTheChecksum :
    Params.defaultConfig.crcPoly.getLsbD 0 = true ∧ 1 < ([0x16, 0x01] : List Byte).length ∧ 7 < 8 := by decide
/-- Each clause of the header transitions, at the edges: the sync byte and another; 1, 2, 62, 63; an empty payload or not. -/
theorem witness_RxByteHeaderTransitions :
    [0xC8, 0xC9].map (fun b => (rxStep b State.reset).1.rxState) = [.awaitLen, .idle] ∧
    [1, 2, 62, 63].map (fun b => (rxStep b { State.reset with rxState := .awaitLen }).1.rxState) =
      [.idle, .awaitType, .awaitType, .idle] ∧
    [2, 3].map (fun n => (rxStep 0x16 { State.reset with rxState := .awaitType, rxLen := n }).1.rxState) =
      [.awaitCrc, .payload] := by decide
/-- A payload byte that is not the last, and the last one. -/
theorem witness_RxBytePayloadTransition :
    midPayload.rxState = .payload ∧ (rxStep 0x02 midPayload).1.rxState = .payload ∧
    lastPayload.rxState = .payload ∧ (rxStep 0x03 lastPayload).1.rxState = .awaitCrc := by decide
theorem witness_RxByteChecksumMatches_other :
    beforeChecksum.rxState = .awaitCrc ∧ (0xDA : Byte) = beforeChecksum.rxCrc ∧
    ¬ ToRcu beforeChecksum.cfg beforeChecksum.rxType beforeChecksum.rxLen.toNat := by
  unfold ToRcu; decide
theorem witness_RxByteChecksumMatches_rc :
    beforeRcChecksum.rxState = .awaitCrc ∧ (0x44 : Byte) = beforeRcChecksum.rxCrc ∧
    ToRcu beforeRcChecksum.cfg beforeRcChecksum.rxType beforeRcChecksum.rxLen.toNat ∧ beforeRcChecksum.rxLen = 24 ∧
    (beforeRcChecksum.rxBuf.toList.take beforeRcChecksum.rxCnt.toNat).length = 22 := by
  unfold ToRcu; decide
/-- Every row of the wire space. -/
theorem witness_FrameRowsAreRxFeed :
    FrameRow (.frameRcChannelsPacked [] 0) 0x16 [] 0 ∧ FrameRow (.frameLinkStatistics [] 0) 0x14 [] 0 ∧
    FrameRow (.frameGps [] 0) 0x02 [] 0 ∧ FrameRow (.frameBattery [] 0) 0x08 [] 0 ∧
    FrameRow (.frameBaroAlt [] 0) 0x09 [] 0 ∧ FrameRow (.frameAttitude [] 0) 0x1E [] 0 ∧
    FrameRow (.frameFlightMode [] 0) 0x21 [] 0 ∧ FrameRow (.frameOther 0x3A [] 0) 0x3A [] 0 := by
  unfold FrameRow
  refine ⟨?_, ?_, ?_, ?_, ?_, ?_, ?_, ?_⟩ <;> decide
/-- An RC frame of another length, the longest frame, and the link-statistics frame that sets its event. -/
theorem witness_WellFormedFrameCompletes :
    FrameRow (.frameRcChannelsPacked [1, 2, 3] 0xDA) 0x16 [1, 2, 3] (crc8 State.reset.cfg [0x16, 1, 2, 3]) ∧
    State.reset.rxState = .idle ∧ ([1, 2, 3] : List Byte).length ≤ 60 ∧ ¬ ToRcu State.reset.cfg 0x16 (3 + 2) ∧
    (List.replicate 60 (0 : Byte)).length ≤ 60 ∧ ¬ ToRcu State.reset.cfg 0x7F 62 ∧
    lsEvent State.reset.cfg 0x14 12 = 0x02 ∧ lsEvent State.reset.cfg 0x14 11 = 0x00 := by
  unfold FrameRow ToRcu; decide
theorem witness_RcFrameIsDecoded :
    State.reset.cfg.enRc = true ∧ State.reset.rxState = .idle ∧ mixed.length = 22 := by decide
theorem witness_CorruptFrameIsRejected :
    FrameRow (.frameOther 0x3A [] 0xA1) 0x3A [] 0xA1 ∧ State.reset.rxState = .idle ∧ ([] : List Byte).length ≤ 60 ∧
    (0xA1 : Byte) ≠ crc8 State.reset.cfg [0x3A] := by
  unfold FrameRow; decide
theorem witness_SingleBitCorruptionIsRejectedAndTheNextFrameParsed :
    State.reset.cfg.crcPoly.getLsbD 0 = true ∧ State.reset.rxState = .idle ∧ mixed.length ≤ 60 ∧ 23 < mixed.length + 2 ∧
    7 < 8 ∧ flipBit (wireFrame State.reset.cfg 0x3A []) (0 + 2) 7 = [0xC8, 0x02, 0xBA, 0xA0] ∧
    flipBit (wireFrame State.reset.cfg 0x3A []) (1 + 2) 0 = [0xC8, 0x02, 0x3A, 0xA1] := by decide
/-- Two states that differ in what an earlier frame left. -/
theorem witness_ReceiverForgetsEarlierFrames :
    (beforeChecksum.receive 0xDA).rxState = .idle ∧ State.reset.rxState = .idle ∧
    (beforeChecksum.receive 0xDA).cfg = State.reset.cfg ∧ (beforeChecksum.receive 0xDA).rxType ≠ State.reset.rxType := by
  decide
/-- Its first clause: invariant states whose byte is answered COMPLETE, and REJECTED. -/
theorem witness_ReceiverForgetsEarlierFrames_status :
    beforeChecksum.RxInv ∧ (rxStep 0xDA beforeChecksum).2 = .complete 0x00
      { length := 0x05, type := 0x16, payload := [0x01, 0x02, 0x03], checksum := 0xDA } ∧
    (rxStep 0xDB beforeChecksum).2 = .rejected .crcMismatch :=
  ⟨And.intro (by decide) (And.intro (by decide) (by decide)), by decide, by decide⟩
theorem witness_AnyWellFormedFrameEndsInComplete :
    State.reset.rxState = .idle ∧ (List.replicate 60 (0 : Byte)).length ≤ 60 ∧ ([] : List Byte).length ≤ 60 := by decide
theorem witness_ReceiverIsIdleWithinSixtyThreeBytes :
    midPayload.RxInv ∧ (List.replicate 63 (0xC8 : Byte)).length = 63 :=
  ⟨witness_midPayload_rxInv.1, by decide⟩
theorem witness_enRc : State.reset.cfg.enRc = true ∧ mixed.length = 22 ∧ mixedChannels.length = 16 := by decide
/-- R160: the corner values. -/
theorem witness_RcTousConverts : [0, 171, 172, 2047, 65535].map toUsInt = [881, 988, 988, 2160, 41825] ∧ 171 ≤ 172 := by
  decide
theorem witness_RcTorawConverts :
    [0, 880, 881, 41825, 41826, 65535].map toRawInt = [0, 0, 0, 65534, 65535, 65535] := by decide
theorem witness_MultiplierForms :
    ((2047 : Half).toNat ≤ 2047) ∧ 881 ≤ (881 : Half).toNat ∧ 2047 < (3823 : Half).toNat ∧
    (toUs 3823).toNat ≠ (3823 * 40945 + 881 <<< 16 + 32768) >>> 16 := by decide
theorem witness_UnitConversionRoundTrip :
    (2047 : Half).toNat ≤ 2047 ∧ 988 ≤ (988 : Half).toNat ∧ (2012 : Half).toNat ≤ 2012 ∧
    toRaw (toUs 172) = 171 ∧ toUs (toRaw 988) = 988 := by decide
theorem witness_RcGetReadsAChannel :
    State.reset.cfg.enRc = true ∧ (15 : Byte).toNat < 16 ∧ 15 < (16 : Byte).toNat ∧ 15 < (255 : Byte).toNat := by decide
/-- A decode, and an operation that leaves the channels. -/
theorem witness_ChannelsAreWrittenOnlyByADecode :
    (Instr.rcDec mixed).onWire = false ∧ (after (exec (.rcDec mixed) State.reset)).map State.draws = some 1 ∧
    Instr.rcStat.onWire = false ∧ (after (exec .rcStat State.reset)).map State.draws = some 0 := by decide
theorem witness_ValidStaysSetUntilReset :
    ({ State.reset with rcValid := true, inbox := [.command [0x21]] } : State).rcValid = true ∧
    ({ State.reset with rcValid := true, inbox := [.command [0x21]] } : State).inbox.head? ≠ some .reset ∧
    (after (step { State.reset with rcValid := true, inbox := [.command [0x21]] })).map State.rcValid = some true := by
  decide
/-- The enables the telemetry and adjacent statements assume. -/
theorem witness_enables :
    State.reset.cfg.enTlm = true ∧ State.reset.cfg.enAtt = true ∧ State.reset.cfg.enBaro = true ∧
    State.reset.cfg.enBat = true ∧ State.reset.cfg.enGps = true ∧ State.reset.cfg.enFm = true ∧
    State.reset.cfg.hasAdj = true ∧ State.reset.cfg.enLs = true := by decide
theorem witness_TlmSetfmStagesTheMode : (7 : Byte).toNat < 8 ∧ 8 ≤ (8 : Byte).toNat := by decide
/-- The angle wraps at ±1800 with both ends kept (V-TLM-1), and `att_units` is V-TLM-2's. -/
theorem witness_TlmSendAttitude :
    [1800, -1800, 1801, -1801, 32767, -32768].map wrapped = [1800, -1800, -1799, 1799, 367, -368] ∧
    [1, -1, -200, 1801].map attUnits = [17, -17, -3490, -31398] := by decide
/-- V-TLM-3 at the edges of the four branches. -/
theorem witness_TlmSendBaro :
    [-10001, -10000, 22767, 22768, 327655, 327656].map altCode = [0x0000, 0x0000, 0x7FFF, 0x88E5, 0xFFFE, 0xFFFE] := by
  decide
/-- Kinds 4 and 5 and 255, and a kind that is not built. -/
theorem witness_TlmSendOfEveryKind :
    State.reset.cfg.enTlm = true ∧ 4 < (5 : Byte).toNat ∧ 4 < (255 : Byte).toNat ∧ (4 : Byte).toNat < 5 ∧
    kindOn State.reset.cfg (4 : Byte).toNat = true ∧ kindOn State.reset.cfg (0 : Byte).toNat = true ∧
    kindOn { Params.defaultConfig with enBat := false } (2 : Byte).toNat = false := by decide
theorem witness_SentFramesLoopBack :
    State.reset.cfg.enTlm = true ∧ kindOn State.reset.cfg (4 : Fin 5).val = true ∧ State.reset.rxState = .idle := by decide
theorem witness_LsDecReturnsTheFields :
    State.reset.cfg.hasAdj = true ∧ State.reset.cfg.enLs = true ∧ (List.replicate 10 (0 : Byte)).length = 10 := by decide
theorem witness_FmSetConfiguresASlot :
    State.reset.cfg.hasAdj = true ∧ (7 : Byte).toNat < 8 ∧ (15 : Byte).toNat < 16 ∧
    (8 ≤ (8 : Byte).toNat ∨ 15 < (0 : Byte).toNat) ∧ (8 ≤ (7 : Byte).toNat ∨ 15 < (16 : Byte).toNat) := by decide
/-- Slot 3 alone is set, to a range that is its channel's one value. -/
def oneSlot : State := State.reset.setSlot 3 { channel := 15, min := 992, max := 992 }

/-- A slot that matches at both of its ends, with no lower one that does; and reset, where none matches. -/
theorem witness_FmHandleFirstMatchWins :
    oneSlot.cfg.hasAdj = true ∧ SlotMatches oneSlot 3 ∧ (∀ j : Fin 8, j < 3 → ¬ SlotMatches oneSlot j) ∧
    (∀ id : Fin 8, ¬ SlotMatches State.reset id) := by
  refine ⟨by decide, ?_, ?_, ?_⟩ <;> unfold SlotMatches <;> decide
theorem witness_TlmUpdateComparesElapsedTime :
    State.reset.cfg.enTlm = true ∧ State.reset.cfg.hasAdj = true ∧ elapsed 5 0xFFFFFFFB = 10 ∧
    elapsed 4 0xFFFFFFFB = 9 := by decide
theorem witness_SchedulerIsTrueOncePerInterval :
    (∀ n ∈ ([40, 99] : List Word), elapsed n State.reset.tlmLast < (State.reset.cfg.tlmInterval.toNat : Int)) ∧
    (State.reset.cfg.tlmInterval.toNat : Int) ≤ elapsed 100 State.reset.tlmLast := by
  refine ⟨fun n hn => ?_, by decide⟩
  simp only [List.mem_cons, List.not_mem_nil, or_false] at hn
  rcases hn with rfl | rfl <;> decide
/-- The first kind, a kind after disabled ones and round the end, and no kind at all. -/
theorem witness_TlmSendnextSendsTheNextEnabledKind :
    kindOn State.reset.cfg ((State.reset.tlmIdx.val + 0) % 5) = true ∧
    kindOn { Params.defaultConfig with enFm := false, enAtt := false } ((4 + 2) % 5) = true ∧
    (∀ i < 2, kindOn { Params.defaultConfig with enFm := false, enAtt := false } ((4 + i) % 5) = false) ∧
    (∀ k < 5, kindOn { bareConfig with enTlm := true, hasAdj := true } k = false) := by decide
theorem witness_ReadOperationsChangeNoState : readOnly (.tlmSend 0) = true ∧ readOnly .fmHandle = true := by decide
theorem witness_ReceiverTouchesNoOtherUnit :
    (Instr.frameOther 0x3A [] 0xA0).onWire = true ∧
    (∃ t, exec (.frameOther 0x3A [] 0xA0) State.reset = .next t) ∧ (∃ t, exec .rxRst State.reset = .next t) ∧
    (∃ t, exec (.rxByte 0xC8) State.reset = .next t) :=
  ⟨by decide, ⟨_, rfl⟩, ⟨_, rfl⟩, ⟨_, rfl⟩⟩

end Sys2Proof.Tests
end

/-! The checksum unit CSU: CRC.UPD, CRC.BLK and CRC.CHK (40_checksum R101 to R107), and the encodings of their commands. -/

namespace Sys2Proof.Proofs

open Sys2Proof.Machine Sys2Proof.Claims

/-! What each operation answers: one response more, and nothing else. -/

theorem exec_crcUpd (crc b : Byte) (s : State) :
    exec (.crcUpd crc b) s = .next (told s [0x00, crc8Upd s.cfg.crcPoly crc b]) := rfl

theorem exec_crcBlk (d : List Byte) (s : State) :
    exec (.crcBlk d) s = .next (told s [0x00, crc8 s.cfg d]) := rfl

theorem exec_crcChk (d : List Byte) (e : Byte) (s : State) :
    exec (.crcChk d e) s = .next (told s [0x00, if crc8 s.cfg d = e then 0x01 else 0x00]) := by
  have hb : boolByte (crc8 s.cfg d == e) = if crc8 s.cfg d = e then 0x01 else 0x00 := by
    simp only [boolByte, beq_iff_eq]
  rw [← hb]
  rfl

/-! The checksum functions. -/

/-- A left shift within a byte is the shift of its number, cut to eight bits (R101 `& 0xFF`). -/
theorem byte_shiftLeft_one (r : Byte) : r <<< 1 = BitVec.ofNat 8 (r.toNat <<< 1 &&& 0xFF) := by
  apply BitVec.eq_of_toNat_eq
  rw [BitVec.toNat_shiftLeft, BitVec.toNat_ofNat, show 0xFF = 2 ^ 8 - 1 from rfl, Nat.and_two_pow_sub_one_eq_mod,
    Nat.mod_mod]

/-- One bit of the step as R101 writes it, on the register's number. -/
theorem crcShift_eq (poly r : Byte) :
    crcShift poly r =
      if r.getLsbD 7 then BitVec.ofNat 8 (r.toNat <<< 1 &&& 0xFF) ^^^ poly
      else BitVec.ofNat 8 (r.toNat <<< 1 &&& 0xFF) := by
  rw [crcShift, BitVec.msb_eq_getLsbD_last, byte_shiftLeft_one]

/-- One bit more is one shift more, taken last. -/
theorem crcShifts_succ (poly : Byte) (n : Nat) (r : Byte) :
    crcShifts poly (n + 1) r = crcShift poly (crcShifts poly n r) := by
  induction n generalizing r with
  | zero => rfl
  | succ n ih => exact ih (crcShift poly r)

theorem crcShifts_zero_register (poly : Byte) (n : Nat) : crcShifts poly n 0 = 0 := by
  induction n with
  | zero => rfl
  | succ n ih => simpa [crcShifts, crcShift] using ih

/-- With the lowest term in the polynomial, the step gives 0 only when the byte is the register itself (R108 c). -/
theorem crc8Upd_eq_zero_iff {poly : Byte} (hp : poly.getLsbD 0 = true) (c b : Byte) :
    crc8Upd poly c b = 0 ↔ c = b := by
  constructor
  · intro h
    exact BitVec.xor_eq_zero_iff.mp (crcShifts_eq_zero poly hp 8 _ h)
  · rintro rfl
    rw [crc8Upd, BitVec.xor_self]
    exact crcShifts_zero_register poly 8

/-- The loop of R102 is the left fold of the byte step. -/
theorem crc8Run_eq_foldl (poly c : Byte) (d : List Byte) : crc8Run poly c d = d.foldl (crc8Upd poly) c := by
  induction d generalizing c with
  | nil => rfl
  | cons b d ih => exact ih (crc8Upd poly c b)

/-- Entry `x` of the reference table is `crc8_upd(0, x)` for the polynomial 0xD5 (R104): each of the table's 256 constants
is compared with the step that computes it. -/
theorem crcTable_getD : ∀ x : Byte, crcTable.getD x.toNat 0 = crcShifts 0xD5 8 x := by
  decide

/-! The commands' encodings. -/

/-- A command of a format of fixed length has its encoding: it decodes to its operands, and no command of the same code
and another length decodes (30_encoding R75, R79). -/
theorem encoded_of_fixed_length {o : Opcode} {rest : List Byte}
    (hl : ∀ cmd, o.format.commandLength cmd = (o.code :: rest).length) :
    Encoded (operandsOf o (o.code :: rest)) (o.code :: rest) := by
  refine ⟨decode_eq_operandsOf (hl _).symm, fun cmd hc hne => decode_ne_ok_of_length hc ?_⟩
  rw [hl]
  exact hne

/-- A count byte of at most 255 data bytes holds their number (30_encoding R75). -/
theorem count_toNat {d : List Byte} (hd : d.length ≤ 255) : (BitVec.ofNat 8 d.length).toNat = d.length :=
  Nat.mod_eq_of_lt (by omega)

/-- The bytes behind the count byte, as many as it counts, are the block in front of what follows. -/
theorem bytesAt_two_append (op n : Byte) (d tail : List Byte) : bytesAt (op :: n :: (d ++ tail)) 2 d.length = d := by
  simp [bytesAt]

/-- The byte behind the block. -/
theorem byteAt_two_add_append (op n e : Byte) (d : List Byte) :
    byteAt (op :: n :: (d ++ [e])) (2 + d.length) = e := by
  rw [Nat.add_comm, byteAt_cons_succ, byteAt_cons_succ]
  simp [byteAt]

theorem decode_crcBlk {d : List Byte} (hd : d.length ≤ 255) :
    decode ([0x11, BitVec.ofNat 8 d.length] ++ d) = .ok (.crcBlk d) := by
  have hn := count_toNat hd
  have hl : (Opcode.crcBlk.code :: BitVec.ofNat 8 d.length :: d).length =
      2 + (BitVec.ofNat 8 d.length).toNat := by
    rw [hn, List.length_cons, List.length_cons]
    omega
  have hb := bytesAt_two_append 0x11 (BitVec.ofNat 8 d.length) d []
  rw [List.append_nil] at hb
  calc decode ([0x11, BitVec.ofNat 8 d.length] ++ d)
      = .ok (.crcBlk (bytesAt (0x11 :: BitVec.ofNat 8 d.length :: d) 2 (BitVec.ofNat 8 d.length).toNat)) :=
        decode_eq_operandsOf (o := .crcBlk) hl
    _ = .ok (.crcBlk d) := by rw [hn, hb]

theorem decode_crcChk {d : List Byte} (hd : d.length ≤ 255) (e : Byte) :
    decode ([0x12, BitVec.ofNat 8 d.length] ++ d ++ [e]) = .ok (.crcChk d e) := by
  have hn := count_toNat hd
  have hl : (Opcode.crcChk.code :: BitVec.ofNat 8 d.length :: (d ++ [e])).length =
      3 + (BitVec.ofNat 8 d.length).toNat := by
    rw [hn, List.length_cons, List.length_cons, List.length_append, List.length_singleton]
    omega
  calc decode ([0x12, BitVec.ofNat 8 d.length] ++ d ++ [e])
      = .ok (.crcChk (bytesAt (0x12 :: BitVec.ofNat 8 d.length :: (d ++ [e])) 2 (BitVec.ofNat 8 d.length).toNat)
          (byteAt (0x12 :: BitVec.ofNat 8 d.length :: (d ++ [e])) (2 + (BitVec.ofNat 8 d.length).toNat))) :=
        decode_eq_operandsOf (o := .crcChk) hl
    _ = .ok (.crcChk d e) := by rw [hn, bytesAt_two_append, byteAt_two_add_append]

/-! The statements. -/

/-- Settles O15: the registers after 0 to 8 bits are `crcShifts` of `crc ^ b`. -/
theorem crcUpdIsEightShifts : Obligations.CrcUpdIsEightShifts := by
  intro s crc b
  refine ⟨encoded_of_fixed_length (o := .crcUpd) fun _ => rfl,
    fun k => crcShifts s.cfg.crcPoly k (crc ^^^ b), rfl, fun k _ => ?_, exec_crcUpd crc b s⟩
  exact (crcShifts_succ _ k _).trans (crcShift_eq _ _)

/-- Settles O16: the step depends on `crc ^ b` alone, and the table lists it for every such byte. -/
theorem crcUpdIsTheReferenceTable : Obligations.CrcUpdIsTheReferenceTable := by
  intro s crc b hp
  rw [exec_crcUpd, hp, crcTable_getD, crc8Upd]

/-- Settles O17: the loop of R102 is a left fold of the byte step, and the count byte holds every length up to 255. -/
theorem crcBlkFoldsTheStep : Obligations.CrcBlkFoldsTheStep := by
  refine ⟨fun s d => ?_, fun d hd => decode_crcBlk hd, fun cmd hc hl => decode_ne_ok_of_length (o := .crcBlk) hc hl⟩
  rw [exec_crcBlk, crc8_eq, crc8Run_eq_foldl]

/-- Settles O18: the appended byte takes the step from the checksum of `d`, which gives 0 only on that checksum. -/
theorem crcChkTestsTheChecksum : Obligations.CrcChkTestsTheChecksum := by
  refine ⟨fun s d e => ⟨exec_crcChk d e s, fun hp => ?_⟩, fun d e hd => decode_crcChk hd e,
    fun cmd hc hl => decode_ne_ok_of_length (o := .crcChk) hc hl⟩
  rw [crc8_append_singleton, crc8Upd_eq_zero_iff hp]

end Sys2Proof.Proofs

/-! The channel fields of a payload: the model's shifts of one integer, and the byte table of 30_encoding R85. -/

namespace Sys2Proof.Proofs

open Sys2Proof.Machine Sys2Proof.Claims

theorem or_shiftLeft_eq_add {a i : Nat} (b : Nat) (h : a < 2 ^ i) : a ||| b <<< i = a + 2 ^ i * b := by
  rw [Nat.or_comm, ← Nat.shiftLeft_add_eq_or_of_lt h, Nat.shiftLeft_eq, Nat.mul_comm, Nat.add_comm]

/-- A channel field that begins at bit `r ≤ 5` of a byte ends within the next byte. -/
theorem twoByteField_eq (a b : Byte) (n : Nat) {r : Nat} (hr : r ≤ 5) :
    a.toNat >>> r ||| (b.toNat &&& 2 ^ (r + 3) - 1) <<< (8 - r) =
      (a.toNat + 256 * (b.toNat + 256 * n)) >>> r % 2048 := by
  have ha := a.isLt
  have h : a.toNat >>> r < 2 ^ (8 - r) := by
    rw [Nat.shiftRight_eq_div_pow]
    interval_cases r <;> omega
  rw [or_shiftLeft_eq_add _ h, Nat.and_two_pow_sub_one_eq_mod, Nat.shiftRight_eq_div_pow, Nat.shiftRight_eq_div_pow]
  interval_cases r <;> omega

/-- A channel field that begins at bit 6 or 7 of a byte covers the whole next byte and ends within the one after. -/
theorem threeByteField_eq (a b c : Byte) (n : Nat) {r : Nat} (h6 : 6 ≤ r) (h7 : r ≤ 7) :
    a.toNat >>> r ||| b.toNat <<< (8 - r) ||| (c.toNat &&& 2 ^ (r - 5) - 1) <<< (16 - r) =
      (a.toNat + 256 * (b.toNat + 256 * (c.toNat + 256 * n))) >>> r % 2048 := by
  have ha := a.isLt
  have hb := b.isLt
  have h : a.toNat >>> r < 2 ^ (8 - r) := by
    rw [Nat.shiftRight_eq_div_pow]
    interval_cases r <;> omega
  have h' : a.toNat >>> r + 2 ^ (8 - r) * b.toNat < 2 ^ (16 - r) := by
    rw [Nat.shiftRight_eq_div_pow]
    interval_cases r <;> omega
  rw [or_shiftLeft_eq_add _ h, or_shiftLeft_eq_add _ h', Nat.and_two_pow_sub_one_eq_mod, Nat.shiftRight_eq_div_pow,
    Nat.shiftRight_eq_div_pow]
  interval_cases r <;> omega

/-- The first byte of a byte string is the low byte of its integer; a byte past the end counts as 0. -/
theorem leNat_drop (p : List Byte) (q : Nat) :
    leNat (p.drop q) = (p.getD q 0).toNat + 256 * leNat (p.drop (q + 1)) := by
  induction p generalizing q with
  | nil => simp [leNat]
  | cons b p ih =>
    cases q with
    | zero => rfl
    | succ q => exact ih q

theorem leNat_shiftRight_bytes (p : List Byte) (q : Nat) : leNat p >>> (8 * q) = leNat (p.drop q) := by
  induction q with
  | zero => rfl
  | succ q ih =>
    have hb := (p.getD q 0).isLt
    rw [Nat.mul_succ, Nat.shiftRight_add, ih, leNat_drop p q, Nat.shiftRight_eq_div_pow]
    omega

/-- Channel field `k` of a byte string's integer, found in its byte. -/
theorem leNat_shiftRight_field (p : List Byte) (k : Nat) :
    leNat p >>> (11 * k) = leNat (p.drop (11 * k / 8)) >>> (11 * k % 8) := by
  rw [← leNat_shiftRight_bytes, ← Nat.shiftRight_add, Nat.div_add_mod]

/-- Field `k` by its two bytes, where they hold it. -/
theorem field_eq_twoBytes (p : List Byte) (k q r : Nat) (hq : 11 * k / 8 = q) (hk : 11 * k % 8 = r) (hr : r ≤ 5) :
    (p.getD q 0).toNat >>> r ||| ((p.getD (q + 1) 0).toNat &&& 2 ^ (r + 3) - 1) <<< (8 - r) =
      leNat p >>> (11 * k) % 2048 := by
  rw [leNat_shiftRight_field, hq, hk, leNat_drop, leNat_drop, twoByteField_eq _ _ _ hr]

/-- Field `k` by its three bytes, where it needs them. -/
theorem field_eq_threeBytes (p : List Byte) (k q r : Nat) (hq : 11 * k / 8 = q) (hk : 11 * k % 8 = r) (h6 : 6 ≤ r)
    (h7 : r ≤ 7) :
    (p.getD q 0).toNat >>> r ||| (p.getD (q + 1) 0).toNat <<< (8 - r) |||
        ((p.getD (q + 2) 0).toNat &&& 2 ^ (r - 5) - 1) <<< (16 - r) =
      leNat p >>> (11 * k) % 2048 := by
  rw [leNat_shiftRight_field, hq, hk, leNat_drop, leNat_drop, leNat_drop, threeByteField_eq _ _ _ _ h6 h7]

/-- The eight rows of R85 are the first eight 11-bit fields of the payload's integer. -/
theorem eightChannels_eq (p : List Byte) :
    eightChannels (fun i => (p.getD i 0).toNat) = (List.range 8).map fun k => leNat p >>> (11 * k) % 2048 := by
  have row0 := field_eq_twoBytes p 0 0 0 rfl rfl (by decide)
  have row1 := field_eq_twoBytes p 1 1 3 rfl rfl (by decide)
  have row2 := field_eq_threeBytes p 2 2 6 rfl rfl (by decide) (by decide)
  have row3 := field_eq_twoBytes p 3 4 1 rfl rfl (by decide)
  have row4 := field_eq_twoBytes p 4 5 4 rfl rfl (by decide)
  have row5 := field_eq_threeBytes p 5 6 7 rfl rfl (by decide) (by decide)
  have row6 := field_eq_twoBytes p 6 8 2 rfl rfl (by decide)
  have row7 := field_eq_twoBytes p 7 9 5 rfl rfl (by decide)
  have mask : (p.getD 10 0).toNat &&& 2 ^ 8 - 1 = (p.getD 10 0).toNat := by
    rw [Nat.and_two_pow_sub_one_eq_mod, Nat.mod_eq_of_lt (p.getD 10 0).isLt]
  rw [mask] at row7
  simpa [eightChannels, List.range_succ, ← row1, ← row2, ← row3, ← row4, ← row5, ← row6, ← row7] using row0

/-- The model's channels are the table's (R85, R150). -/
theorem unpack_eq_channelTable (p : List Byte) : (unpack p).toList.map BitVec.toNat = channelTable p := by
  have low := eightChannels_eq p
  have high := eightChannels_eq (p.drop 11)
  have hget : (fun i => (p.getD (i + 11) 0).toNat) = fun i => ((p.drop 11).getD i 0).toNat := by
    funext i
    simp [Nat.add_comm]
  rw [channelTable, hget, low, high, ← leNat_shiftRight_bytes]
  simp [unpack, Vector.toList_ofFn, List.ofFn_succ, List.range_succ, ← Nat.shiftRight_add]

end Sys2Proof.Proofs

/-! The frame receiver FRX: RX.BYTE and RX.RST (41_frame_receiver R122 to R135). -/

namespace Sys2Proof.Proofs

open Sys2Proof.Machine Sys2Proof.Claims

/-! One RX.BYTE, row by row of R122. -/

/-- RX.BYTE is the receiver's transition and its response. -/
theorem exec_rxByte_of_rxStep {b : Byte} {s t : State} {r : Response} (h : rxStep b s = (t, r)) :
    exec (.rxByte b) s = .next (told t (responseBytes r)) := by
  change Host.Outcome.next ((rxStep b s).1.answer (rxStep b s).2) = _
  rw [h]
  rfl

theorem rxStep_of_idle {s : State} (h : s.rxState = .idle) (b : Byte) :
    rxStep b s = ({ s with rxState := if b = Params.sync then .awaitLen else .idle }, .incomplete) := by
  simpa [h] using rxStep_cases b s

theorem rxStep_of_awaitLen {s : State} (h : s.rxState = .awaitLen) (b : Byte) :
    rxStep b s =
      if 2 ≤ b.toNat ∧ b.toNat ≤ 62 then ({ s with rxLen := b, rxState := .awaitType }, .incomplete)
      else ({ s with rxState := .idle }, .rejected .badLength) := by
  rw [rxStep_awaitLen b s h]
  rfl

theorem rxStep_of_awaitType {s : State} (h : s.rxState = .awaitType) (b : Byte) :
    rxStep b s =
      ({ s with
          rxType := b, rxCrc := crc8Upd s.cfg.crcPoly s.cfg.crcInit b, rxCnt := 0
          rxState := if s.rxLen.toNat = 2 then .awaitCrc else .payload }, .incomplete) :=
  rxStep_awaitType b s h

theorem rxStep_of_payload {s : State} (h : s.rxState = .payload) (b : Byte) :
    rxStep b s =
      ({ s with
          rxBuf := s.rxBuf.setIfInBounds s.rxCnt.toNat b, rxCrc := crc8Upd s.cfg.crcPoly s.rxCrc b
          rxCnt := s.rxCnt + 1
          rxState := if s.rxCnt.toNat + 3 = s.rxLen.toNat then .awaitCrc else .payload }, .incomplete) :=
  rxStep_payload b s h

theorem rxStep_of_checksum_eq {s : State} (h : s.rxState = .awaitCrc) {b : Byte} (hb : b = s.rxCrc) :
    rxStep b s =
      ((routeFrame (receivedFrame b s) s).endFrame,
        .complete (routeEvents s.cfg (receivedFrame b s)) (receivedFrame b s)) := by
  rw [rxStep_awaitCrc b s h, rxAwaitCrc, if_pos hb]

theorem rxStep_of_checksum_ne {s : State} (h : s.rxState = .awaitCrc) {b : Byte} (hb : b ≠ s.rxCrc) :
    rxStep b s = (s.endFrame, .rejected .crcMismatch) := by
  rw [rxStep_awaitCrc b s h, rxAwaitCrc, if_neg hb]
  rfl

/-- Every byte is answered INCOMPLETE or leaves the receiver in `IDLE` (R130). -/
theorem rxStep_incomplete_or_idle (b : Byte) (s : State) :
    (rxStep b s).2 = .incomplete ∨ (rxStep b s).1.rxState = .idle := by
  rcases rxStep_cases b s with
    ⟨_, h⟩ | ⟨_, _, _, h⟩ | ⟨_, _, h⟩ | ⟨_, h⟩ | ⟨_, h⟩ | ⟨_, _, h⟩ | ⟨_, _, h⟩ <;> simp [h]

/-! The receiver's registers under its invariant (10_state R25 to R27). -/

theorem rxInv_of_payload {s : State} (h : s.RxInv) (hs : s.rxState = .payload) :
    s.rxCnt.toNat + 2 < s.rxLen.toNat ∧ s.rxLen.toNat ≤ 62 ∧ s.rxCrc = crc8 s.cfg (s.rxType :: s.payloadRead) := by
  simpa [State.RxInv, hs] using h

theorem rxInv_of_awaitCrc {s : State} (h : s.RxInv) (hs : s.rxState = .awaitCrc) :
    s.rxCnt.toNat + 2 = s.rxLen.toNat ∧ s.rxLen.toNat ≤ 62 ∧ s.rxCrc = crc8 s.cfg (s.rxType :: s.payloadRead) := by
  simpa [State.RxInv, hs] using h

theorem rxCnt_of_rxInv_idle {s : State} (h : s.RxInv) (hs : s.rxState = .idle) : s.rxCnt = 0 := by
  simpa [State.RxInv, hs] using h

theorem rxCnt_succ_toNat {n : BitVec 6} (h : n.toNat < 60) : (n + 1).toNat = n.toNat + 1 := by
  rw [BitVec.toNat_add]
  exact Nat.mod_eq_of_lt (Nat.add_lt_add_right h 1 |>.trans (by decide))

theorem payloadRead_length {s : State} (h : s.rxCnt.toNat ≤ 60) : s.payloadRead.length = s.rxCnt.toNat := by
  simpa [State.payloadRead] using h

/-! The routing of a completed frame (R131). -/

theorem routesRc_iff (cfg : Config) (f : Frame) : routesRc cfg f = true ↔ ToRcu cfg f.type f.length.toNat := by
  simp [routesRc, ToRcu, Params.tRc, Params.rcFrameLen, BitVec.toNat_eq, and_assoc]

theorem routesRc_of_not_toRcu {cfg : Config} {f : Frame} (h : ¬ ToRcu cfg f.type f.length.toNat) :
    routesRc cfg f = false := by
  rwa [← Bool.not_eq_true, routesRc_iff]

theorem routeEvents_of_toRcu {cfg : Config} {f : Frame} (h : ToRcu cfg f.type f.length.toNat) :
    routeEvents cfg f = 0x01 := by
  simp [routeEvents, routesLs, (routesRc_iff cfg f).mpr h, eventByte]

theorem routesLs_iff {cfg : Config} {f : Frame} (h : ¬ ToRcu cfg f.type f.length.toNat) :
    routesLs cfg f = true ↔
      cfg.hasAdj = true ∧ cfg.enLs = true ∧ f.type = 0x14 ∧ f.length.toNat = 12 := by
  simp [routesLs, routesRc_of_not_toRcu h, Params.tLs, Params.lsFrameLen, BitVec.toNat_eq, and_assoc]

theorem routeEvents_of_not_toRcu {cfg : Config} {f : Frame} (h : ¬ ToRcu cfg f.type f.length.toNat) :
    routeEvents cfg f = lsEvent cfg f.type f.length.toNat := by
  rw [routeEvents, lsEvent, routesRc_of_not_toRcu h]
  by_cases hl : cfg.hasAdj = true ∧ cfg.enLs = true ∧ f.type = 0x14 ∧ f.length.toNat = 12
  · rw [if_pos hl, (routesLs_iff h).mpr hl]
    rfl
  · rw [if_neg hl, Bool.eq_false_of_not_eq_true (mt (routesLs_iff h).mp hl)]
    rfl

theorem routeFrame_of_toRcu {s : State} {f : Frame} (h : ToRcu s.cfg f.type f.length.toNat) :
    routeFrame f s = s.loadChannels (unpack f.payload) := by
  rw [routeFrame, if_pos ((routesRc_iff s.cfg f).mpr h)]

theorem routeFrame_of_not_toRcu {s : State} {f : Frame} (h : ¬ ToRcu s.cfg f.type f.length.toNat) :
    routeFrame f s = s := by
  rw [routeFrame, if_neg (mt (routesRc_iff s.cfg f).mp h)]

/-! Bytes one after another (30_encoding R81). -/

theorem rxFeed_eq_feed (bytes : List Byte) (s : State) : rxFeed bytes s = some (s.feed bytes) := by
  induction bytes generalizing s with
  | nil => rfl
  | cons b bytes ih => exact ih (s.receive b)

/-- A frame fed from `IDLE` with its own checksum is answered INCOMPLETE but for its last byte: COMPLETE (R132). -/
theorem feed_wireFrame (s : State) (t : Byte) (p : List Byte) (h : s.rxState = .idle) (hp : p.length ≤ 60) :
    (s.feed (wireFrame s.cfg t p)).rxState = .idle ∧
      ∃ ev, (s.feed (wireFrame s.cfg t p)).rsps = s.rsps ++ List.replicate (p.length + 3) [0x01] ++
        [[0x02, ev, BitVec.ofNat 8 (p.length + 2), t] ++ p ++ [crc8 s.cfg (t :: p)]] := by
  obtain ⟨buf, hbuf, hfeed⟩ := feed_to_checksum s t p h hp
  rw [wireFrame, feed_append, feed_cons, feed_nil, receive_rsps, State.receive]
  generalize s.feed ([0xC8, BitVec.ofNat 8 (p.length + 2), t] ++ p) = u at hfeed ⊢
  have hcnt : (BitVec.ofNat 6 p.length).toNat = p.length := Nat.mod_eq_of_lt (by omega)
  have hpay : u.payloadRead = p := by rw [State.payloadRead, hfeed, hcnt, hbuf, List.take_left]
  have hframe : receivedFrame (crc8 s.cfg (t :: p)) u = ⟨BitVec.ofNat 8 (p.length + 2), t, p, crc8 s.cfg (t :: p)⟩ := by
    rw [receivedFrame, hpay, hfeed]
  rw [rxStep_of_checksum_eq (by rw [hfeed]) (by rw [hfeed]), hframe]
  exact ⟨rfl, routeEvents u.cfg ⟨_, t, p, _⟩, by rw [hfeed]; rfl⟩

/-! What an earlier frame left is not read again (R130). -/

/-- Two receivers that read the same from here on: in `IDLE` and `AWAIT_LEN` whatever their other registers hold, in
`AWAIT_TYPE` with the same length, and inside a frame with the same registers and the same bytes below `rx_cnt`. -/
inductive RxAgree (s t : State) : Prop where
  | start : t.cfg = s.cfg → t.rxState = s.rxState → s.rxState = .idle ∨ s.rxState = .awaitLen → RxAgree s t
  | type : t.cfg = s.cfg → t.rxState = s.rxState → s.rxState = .awaitType → t.rxLen = s.rxLen → RxAgree s t
  | body : t.cfg = s.cfg → t.rxState = s.rxState → s.rxState = .payload ∨ s.rxState = .awaitCrc →
      t.rxLen = s.rxLen → t.rxType = s.rxType → t.rxCnt = s.rxCnt → t.rxCrc = s.rxCrc →
      (∀ i < s.rxCnt.toNat, t.rxBuf[i]? = s.rxBuf[i]?) → RxAgree s t

theorem payloadRead_congr {s t : State} (hn : t.rxCnt = s.rxCnt)
    (hb : ∀ i < s.rxCnt.toNat, t.rxBuf[i]? = s.rxBuf[i]?) : t.payloadRead = s.payloadRead := by
  refine List.ext_getElem? fun i => ?_
  rw [State.payloadRead, State.payloadRead, hn, List.getElem?_take, List.getElem?_take]
  split <;> rename_i hi
  · simpa using hb i hi
  · rfl

/-- Storing the same byte at the same index carries the agreement one byte further. -/
theorem getElem?_setIfInBounds_congr {u v : Vector Byte 60} {n : BitVec 6}
    (h : ∀ i < n.toNat, v[i]? = u[i]?) (b : Byte) :
    ∀ i < (n + 1).toNat, (v.setIfInBounds n.toNat b)[i]? = (u.setIfInBounds n.toNat b)[i]? := by
  intro i hi
  have hle : (n + 1).toNat ≤ n.toNat + 1 := by
    rw [BitVec.toNat_add]
    exact Nat.mod_le _ _
  rw [Vector.getElem?_setIfInBounds, Vector.getElem?_setIfInBounds]
  by_cases hn : n.toNat = i
  · rw [if_pos hn, if_pos hn]
  · rw [if_neg hn, if_neg hn]
    exact h i (by omega)

theorem routeFrame_cfg (f : Frame) (s : State) : (routeFrame f s).cfg = s.cfg := by
  rcases routeFrame_cases f s with ⟨_, h⟩ | ⟨_, h⟩ <;> simp [h]

/-- A byte gets the same response from both, and they agree again. -/
theorem rxStep_agree {s t : State} (h : RxAgree s t) (b : Byte) :
    (rxStep b t).2 = (rxStep b s).2 ∧ RxAgree (rxStep b s).1 (rxStep b t).1 := by
  rcases h with ⟨hc, hx, hs | hs⟩ | ⟨hc, hx, hs, hl⟩ | ⟨hc, hx, hs | hs, hl, ht, hn, hk, hb⟩ <;>
    have hs' := hx.trans hs
  case start.inl =>
    rw [rxStep_of_idle hs, rxStep_of_idle hs']
    exact ⟨rfl, .start hc rfl (by dsimp only; split <;> simp)⟩
  case start.inr =>
    rw [rxStep_of_awaitLen hs, rxStep_of_awaitLen hs']
    split
    · exact ⟨rfl, .type hc rfl rfl rfl⟩
    · exact ⟨rfl, .start hc rfl (.inl rfl)⟩
  case type =>
    rw [rxStep_of_awaitType hs, rxStep_of_awaitType hs', hc, hl]
    exact ⟨rfl, .body rfl rfl (by dsimp only; split <;> simp) rfl rfl rfl rfl (fun i hi => absurd hi (by simp))⟩
  case body.inl =>
    rw [rxStep_of_payload hs, rxStep_of_payload hs', hc, hl, hn, hk]
    exact ⟨rfl, .body rfl rfl (by dsimp only; split <;> simp) rfl ht rfl rfl (getElem?_setIfInBounds_congr hb b)⟩
  case body.inr =>
    by_cases hbk : b = s.rxCrc
    · have hf : receivedFrame b t = receivedFrame b s := by
        rw [receivedFrame, receivedFrame, hl, ht, payloadRead_congr hn hb]
      rw [rxStep_of_checksum_eq hs hbk, rxStep_of_checksum_eq hs' (hbk.trans hk.symm), hf, hc]
      exact ⟨rfl, .start (by simp [routeFrame_cfg, hc]) rfl (.inl rfl)⟩
    · rw [rxStep_of_checksum_ne hs hbk, rxStep_of_checksum_ne hs' (hk ▸ hbk)]
      exact ⟨rfl, .start hc rfl (.inl rfl)⟩

/-- The agreement is about registers; a response more does not touch it. -/
theorem RxAgree.answer {s t : State} (h : RxAgree s t) (r r' : Response) : RxAgree (s.answer r) (t.answer r') := by
  rcases h with ⟨hc, hx, hs⟩ | ⟨hc, hx, hs, hl⟩ | ⟨hc, hx, hs, hl, ht, hn, hk, hb⟩
  · exact .start hc hx hs
  · exact .type hc hx hs hl
  · exact .body hc hx hs hl ht hn hk hb

/-- Receivers that agree give the same responses to every byte string. -/
theorem feed_agree (bytes : List Byte) {s t : State} (h : RxAgree s t) :
    ∃ rs, (s.feed bytes).rsps = s.rsps ++ rs ∧ (t.feed bytes).rsps = t.rsps ++ rs := by
  induction bytes generalizing s t with
  | nil => exact ⟨[], by simp⟩
  | cons b bytes ih =>
    obtain ⟨hr, ha⟩ := rxStep_agree h b
    obtain ⟨rs, hs, ht⟩ := ih (ha.answer (rxStep b s).2 (rxStep b t).2)
    refine ⟨responseBytes (rxStep b s).2 :: rs, ?_, ?_⟩
    · rw [feed_cons, State.receive, hs, ← State.receive, receive_rsps, List.append_assoc]
      rfl
    · rw [feed_cons, State.receive, ht, ← State.receive, receive_rsps, hr, List.append_assoc]
      rfl

/-! The statements. -/

/-- Settles O21: the rows of R122 for the header, each with its response. -/
theorem rxByteHeaderTransitions : Obligations.RxByteHeaderTransitions := by
  intro s b
  refine ⟨fun h => exec_rxByte_of_rxStep (rxStep_of_idle h b), fun h => ?_, fun h => ?_⟩
  · have hstep := rxStep_of_awaitLen h b
    split <;> rename_i hb
    · exact exec_rxByte_of_rxStep (hstep.trans (if_pos hb))
    · exact exec_rxByte_of_rxStep (hstep.trans (if_neg hb))
  · have hlen : s.rxLen.toNat = 2 ↔ s.rxLen = 2 := BitVec.toNat_inj (y := 2)
    have hstep := rxStep_of_awaitType h b
    simp only [hlen] at hstep
    exact exec_rxByte_of_rxStep hstep

/-- Settles O22: the invariant bounds `rx_cnt` by 59, so the count does not wrap and the byte is stored in `rx_buf`. -/
theorem rxBytePayloadTransition : Obligations.RxBytePayloadTransition := by
  intro s b h hinv
  obtain ⟨hlt, hle, -⟩ := rxInv_of_payload hinv h
  refine ⟨by omega, _, _, Vector.toList_setIfInBounds, rxCnt_succ_toNat (by omega), ?_⟩
  rw [exec_rxByte_of_rxStep (rxStep_of_payload h b)]
  by_cases hlast : s.rxCnt.toNat + 3 = s.rxLen.toNat
  · rw [if_pos hlast, if_neg (by omega)]
    rfl
  · rw [if_neg hlast, if_pos (by omega)]
    rfl

/-- Settles O23: the three routes of R131, and the frame's length and checksum by the invariant. -/
theorem rxByteChecksumMatches : Obligations.RxByteChecksumMatches := by
  intro s b h hb
  have hexec := exec_rxByte_of_rxStep (rxStep_of_checksum_eq h hb)
  refine ⟨fun hrc _ => ?_, fun hrc => ?_, fun hinv => ?_⟩
  · rw [routeFrame_of_toRcu hrc, routeEvents_of_toRcu hrc] at hexec
    exact ⟨unpack s.payloadRead, _, unpack_eq_channelTable _, hexec⟩
  · rw [routeFrame_of_not_toRcu hrc, routeEvents_of_not_toRcu hrc] at hexec
    exact hexec
  · obtain ⟨hlen, hle, hcrc⟩ := rxInv_of_awaitCrc hinv h
    refine ⟨?_, hb.trans hcrc⟩
    rw [← State.payloadRead, payloadRead_length (by omega)]
    omega

/-- Settles O24: RX.RST writes its three registers and answers OK. -/
theorem rxRstRestartsTheReceiver : Obligations.RxRstRestartsTheReceiver :=
  fun _ => ⟨encoded_of_fixed_length (o := .rxRst) fun _ => rfl, rfl⟩

/-- Settles O30: what is not INCOMPLETE ends in `IDLE`, and two receivers in `IDLE` agree. -/
theorem receiverForgetsEarlierFrames : Obligations.ReceiverForgetsEarlierFrames := by
  refine ⟨fun s b hinv => ?_, fun s t bytes hs ht hc => ?_⟩
  · obtain ⟨status, rs, hr⟩ := List.exists_cons_of_ne_nil (responseBytes_ne_nil (rxStep b s).2)
    refine ⟨s.receive b, status, rs, rfl, hr ▸ receive_rsps s b, fun hstatus => ?_⟩
    rcases rxStep_incomplete_or_idle b s with hinc | hidle
    · rw [hinc] at hr
      obtain ⟨rfl, -⟩ := List.cons.inj hr
      exact absurd hstatus (by decide)
    · exact ⟨hidle, rxCnt_of_rxInv_idle (receive_rxInv s b hinv) hidle⟩
  · obtain ⟨rs, hrs, hrt⟩ := feed_agree bytes (.start hc.symm (ht.trans hs.symm) (.inl hs))
    exact ⟨_, _, rs, rxFeed_eq_feed bytes s, rxFeed_eq_feed bytes t, hrs, hrt⟩

/-- Settles O32: the frame's bytes up to the checksum fill the receiver, and the checksum byte completes it. -/
theorem anyWellFormedFrameEndsInComplete : Obligations.AnyWellFormedFrameEndsInComplete := by
  intro s t p h hp
  obtain ⟨hidle, ev, hrsps⟩ := feed_wireFrame s t p h hp
  exact ⟨_, ev, rxFeed_eq_feed _ s, hidle, hrsps⟩

end Sys2Proof.Proofs

/-! The RC-channel unit RCU: RC.DEC, RC.ENC, RC.TOUS, RC.TORAW, RC.GET and RC.STAT (42_rc_channel R150 to R172). -/

namespace Sys2Proof.Proofs

open Sys2Proof.Machine Sys2Proof.Claims

/-! Big-endian halves, in the statements' form and in the model's (00_scope R11). -/

theorem be_two (v : Int) : be 2 v = be2 (BitVec.ofInt 16 v) := by
  have high : BitVec.ofInt 8 (v / 256) = (BitVec.ofInt 16 v).extractLsb' 8 8 := by
    apply BitVec.eq_of_toNat_eq
    rw [BitVec.toNat_ofInt, BitVec.extractLsb'_toNat, BitVec.toNat_ofInt, Nat.shiftRight_eq_div_pow]
    omega
  have low : BitVec.ofInt 8 v = (BitVec.ofInt 16 v).extractLsb' 0 8 := by
    apply BitVec.eq_of_toNat_eq
    rw [BitVec.toNat_ofInt, BitVec.extractLsb'_toNat, BitVec.toNat_ofInt, Nat.shiftRight_zero]
    omega
  rw [be2, ← high, ← low]
  simp [be, List.range_succ]

theorem be_two_toNat (v : Half) : be 2 v.toNat = be2 v := by
  rw [be_two, BitVec.ofInt_natCast, BitVec.ofNat_toNat, BitVec.setWidth_eq]

theorem be2s_eq_flatMap (vs : List Half) : be2s vs = vs.flatMap fun v => be 2 v.toNat := by
  induction vs with
  | nil => rfl
  | cons v vs ih => rw [be2s, ih, List.flatMap_cons, be_two_toNat]

theorem chanHalf_toNat (c : Chan) : (chanHalf c).toNat = c.toNat :=
  BitVec.toNat_setWidth_of_le (by decide)

/-! What each operation answers: ILLEGAL without the unit, else one response more. -/

theorem exec_rcDec {s : State} (h : s.cfg.enRc = true) (p : List Byte) :
    exec (.rcDec p) s = .next (told (decoded s (unpack p) (Config.freeFailsafe s.draws))
      (0x00 :: be2s ((unpack p).toList.map chanHalf))) :=
  finish_of_built h _ _

theorem exec_rcEnc {s : State} (h : s.cfg.enRc = true) (c : List Half) :
    exec (.rcEnc c) s = .next (told s (0x00 :: pack c)) :=
  finish_of_built h _ _

theorem exec_rcTous {s : State} (h : s.cfg.enRc = true) (raw : Half) :
    exec (.rcTous raw) s = .next (told s (0x00 :: be 2 (toUs raw).toNat)) := by
  rw [be_two_toNat]
  exact finish_of_built h _ _

theorem exec_rcToraw {s : State} (h : s.cfg.enRc = true) (us : Half) :
    exec (.rcToraw us) s = .next (told s (0x00 :: be 2 (toRaw us).toNat)) := by
  rw [be_two_toNat]
  exact finish_of_built h _ _

theorem exec_rcGet {s : State} (h : s.cfg.enRc = true) (index : Byte) :
    exec (.rcGet index) s = .next (told s (0x00 :: be 2 (s.channel index.toNat).toNat)) := by
  rw [← chanHalf_toNat, be_two_toNat]
  exact finish_of_built h _ _

theorem exec_rcStat {s : State} (h : s.cfg.enRc = true) :
    exec .rcStat s = .next (told s [0x00, statByte s.rcValid s.rcFailsafe]) :=
  finish_of_built h _ _

/-- The flag byte holds its two flags and no other bit (R31, R172). -/
theorem statByte_bits : ∀ valid failsafe : Bool,
    (statByte valid failsafe).getLsbD 0 = valid ∧ (statByte valid failsafe).getLsbD 1 = failsafe ∧
      (statByte valid failsafe).toNat < 4 := by
  decide

/-! The commands' encodings. -/

theorem encoded_rcDec {p : List Byte} (hp : p.length = 22) : Encoded (.rcDec p) ([0x30] ++ p) := by
  have operand : bytesAt (0x30 :: p) 1 22 = p := by
    rw [bytesAt, List.drop_one, List.tail_cons, ← hp, List.take_length]
  have h := encoded_of_fixed_length (o := .rcDec) (rest := p) fun _ => by rw [List.length_cons, hp]; rfl
  rwa [operandsOf, Opcode.code, operand] at h

/-- Value `k` of a sequence of big-endian halves stands at twice its index. -/
theorem halfAt_be2s (c : List Half) (k : Nat) : halfAt (be2s c) (2 * k) = c.getD k 0 := by
  induction c generalizing k with
  | nil => simp [be2s, halfAt, byteAt]
  | cons v c ih =>
    cases k with
    | zero => exact halfAt_be2 v (be2s c)
    | succ k => exact ih k

theorem encoded_rcEnc {c : List Half} (hc : c.length = 16) : Encoded (.rcEnc c) ([0x31] ++ be2s c) := by
  have operands : (List.range 16).map (fun k => halfAt (0x31 :: be2s c) (1 + 2 * k)) = c := by
    refine List.ext_getElem (by simp [hc]) fun k _ hk => ?_
    rw [List.getElem_map, List.getElem_range, Nat.add_comm, halfAt_cons_succ, halfAt_be2s]
    exact (List.getElem_eq_getD 0).symm
  have h := encoded_of_fixed_length (o := .rcEnc) (rest := be2s c) fun _ => by
    rw [List.length_cons, be2s_length, hc]; rfl
  rwa [operandsOf, Opcode.code, operands] at h

/-- A command whose one operand is a 16-bit value. -/
theorem encoded_half {o : Opcode} {i : Half → Instr} (hf : o.format = .h)
    (hi : ∀ cmd, operandsOf o cmd = i (halfAt cmd 1)) (v : Half) : Encoded (i v) ([o.code] ++ be 2 v.toNat) := by
  rw [be_two_toNat]
  have operand : halfAt (o.code :: be2 v) 1 = v := half_of_bytes v
  have h := encoded_of_fixed_length (o := o) (rest := be2 v) fun _ => by rw [hf]; rfl
  rwa [hi, operand] at h

/-! Packing and unpacking (R150, R153). -/

/-- Every bit of the 176 belongs to one of the sixteen fields. -/
theorem packNat_unpack {p : List Byte} (hp : p.length = 22) :
    packNat ((unpack p).toList.map fun v => v.setWidth 16) = leNat p := by
  have hlt := leNat_lt p
  have hlt' := packNat_lt ((unpack p).toList.map fun v => v.setWidth 16)
  rw [hp] at hlt
  simp only [List.length_map, Vector.length_toList] at hlt'
  refine Nat.eq_of_testBit_eq fun i => ?_
  by_cases hi : i < 176
  · have hj : i % 11 < 11 := Nat.mod_lt _ (by decide)
    have hk : i / 11 < 16 := by omega
    have field := unpack_testBit p ⟨i / 11, hk⟩ (i % 11) hj
    rw [Nat.div_add_mod] at field
    have value : ((unpack p).toList.map fun v => v.setWidth 16).getD (i / 11) 0 = (unpack p)[i / 11].setWidth 16 := by
      simp [List.getD, hk]
    calc (packNat ((unpack p).toList.map fun v => v.setWidth 16)).testBit i
        = ((unpack p)[i / 11].setWidth 16).getLsbD (i % 11) := by
          rw [← value, ← packNat_testBit _ _ _ hj, Nat.div_add_mod]
      _ = (leNat p).testBit i := by
          rw [leNat_testBit, ← field, BitVec.getLsbD_setWidth, decide_eq_true (by omega), Bool.true_and]
          rfl
  · have h176 : 2 ^ 176 ≤ 2 ^ i := Nat.pow_le_pow_right (by decide) (by omega)
    rw [Nat.testBit_lt_two_pow (by omega), Nat.testBit_lt_two_pow (by omega)]

/-! Unit conversion (R160 to R166). -/

theorem toUsInt_lt {raw : Nat} (h : raw < 65536) : toUsInt raw < 65536 := by
  unfold toUsInt
  omega

theorem toUs_toNat (raw : Half) : (toUs raw).toNat = toUsInt raw.toNat := by
  have formula : toUs raw = BitVec.ofNat 16 (toUsInt raw.toNat) := by
    simp only [toUs, toUsInt, Params.kNum, Params.kDen, Params.usOffset, Nat.reducePow, Nat.reduceMul, Nat.reduceDiv]
  rw [formula, BitVec.toNat_ofNat, Nat.mod_eq_of_lt (toUsInt_lt raw.isLt)]

/-- The unsaturated formula passes 65535 exactly from 41826 up (R165). -/
theorem toRawExact_le_iff {us : Nat} : toRawExact us ≤ 65535 ↔ us < 41826 := by
  unfold toRawExact Params.usOffset Params.kDen Params.kNum
  omega

/-- From 881 up, saturation is a minimum (R164, R165). -/
theorem toRawInt_of_ge {us : Nat} (h : 881 ≤ us) : toRawInt us = min (toRawExact us) 65535 := by
  have hle := toRawExact_le_iff (us := us)
  rw [toRawInt, if_neg (by omega)]
  by_cases hs : 41826 ≤ us
  · rw [if_pos hs, Nat.min_eq_right (by omega)]
  · rw [if_neg hs, Nat.min_eq_left (by omega)]
    simp only [toRawExact, Params.kNum, Params.kDen, Params.usOffset, Nat.reducePow, Nat.reduceMul]

theorem toRawInt_of_lt {us : Nat} (h : us < 881) : toRawInt us = 0 := if_pos h

theorem toRawInt_lt (us : Nat) : toRawInt us < 65536 := by
  rcases Nat.lt_or_ge us 881 with h | h
  · rw [toRawInt_of_lt h]
    decide
  · rw [toRawInt_of_ge h]
    omega

theorem toRaw_toNat (us : Half) : (toRaw us).toNat = toRawInt us.toNat := by
  unfold toRaw Params.usOffset
  rcases Nat.lt_or_ge us.toNat 881 with h | h
  · rw [if_pos h, toRawInt_of_lt h]
    rfl
  · rw [if_neg (by omega), toRawInt_of_ge h]
    split <;> rename_i hle
    · rw [BitVec.toNat_ofNat, Nat.mod_eq_of_lt (by omega), Nat.min_eq_left hle]
    · rw [Nat.min_eq_right (by omega)]
      rfl

/-! The multiplier-only forms (R162): `K_NUM / K_DEN` and every multiplier stand for the fraction 1024/1639. -/

/-- Rounding `raw * 1024 / 1639` to nearest leaves an odd remainder, which is at least one part of 3278 from either
end: a multiplier that is off by less than one part rounds to the same number. -/
theorem nearest_remainder (raw : Nat) :
    ∃ r, 3278 * ((raw * 2048 + 1639) / 3278) + r = raw * 2048 + 1639 ∧ 1 ≤ r ∧ r < 3278 := by
  refine ⟨(raw * 2048 + 1639) % 3278, Nat.div_add_mod _ _, ?_, Nat.mod_lt _ (by decide)⟩
  omega

/-- The exact formula rounds as the fraction: `1639 * K_NUM = 1024 * K_DEN - 1`. -/
theorem toUsInt_eq_nearest {raw : Nat} (h : raw < 65536) : toUsInt raw = (raw * 2048 + 1639) / 3278 + 881 := by
  obtain ⟨r, hr, hpos, hlt⟩ := nearest_remainder raw
  unfold toUsInt
  omega

/-- `1639 * 40945 = 1024 * 2^16 - 9`: the error stays below one part for 2048 values. -/
theorem multiplier16_eq_nearest {raw : Nat} (h : raw ≤ 2047) :
    (raw * 40945 + 881 <<< 16 + 32768) >>> 16 = (raw * 2048 + 1639) / 3278 + 881 := by
  obtain ⟨r, hr, hpos, hlt⟩ := nearest_remainder raw
  rw [Nat.shiftLeft_eq, Nat.shiftRight_eq_div_pow]
  omega

/-- `1639 * 2683371880 = 1024 * 2^32 + 216`: the error stays below one part for every 16-bit value. -/
theorem multiplier32_eq_nearest {raw : Nat} (h : raw < 65536) :
    (raw * 2683371880 + 881 <<< 32 + 1 <<< 31) >>> 32 = (raw * 2048 + 1639) / 3278 + 881 := by
  obtain ⟨r, hr, hpos, hlt⟩ := nearest_remainder raw
  rw [Nat.shiftLeft_eq, Nat.shiftLeft_eq, Nat.shiftRight_eq_div_pow]
  omega

/-- The inverse fraction 1639/1024 rounded half up. The exact quotient is larger, by less than the next step of the
fraction, so that also `us` = 1393, where the fraction is a tie, rounds up in both (R166). -/
theorem toRawExact_eq_inverse {us : Nat} (h : 881 ≤ us) (h' : us < 65536) :
    toRawExact us = ((us - 881) * 1639 + 512) >>> 10 := by
  unfold toRawExact Params.usOffset Params.kDen Params.kNum
  rw [Nat.shiftRight_eq_div_pow]
  omega

/-! The statements. -/

/-- Settles O33: the sixteen shifts of the payload's integer are the table of R85, and the answer is those channels. -/
theorem rcDecLoadsTheChannels : Obligations.RcDecLoadsTheChannels := by
  intro s p hp
  have hch := unpack_eq_channelTable p
  have answer : be2s ((unpack p).toList.map chanHalf) = (channelTable p).flatMap fun v : Nat => be 2 v := by
    rw [be2s_eq_flatMap, ← hch, List.flatMap_map, List.flatMap_map]
    simp only [chanHalf_toNat]
  refine ⟨encoded_rcDec hp, fun h => finish_of_absent h _ _,
    fun h => ⟨unpack p, Config.freeFailsafe s.draws, hch, ?_⟩⟩
  rw [exec_rcDec h, answer]
  -- The statement casts the table to integers before it lays the values out.
  simp [List.flatMap_assoc]

/-- Settles O34: bit `11k + j` of the packed integer is bit `j` of value `k`, and the bytes hold its bits in order. -/
theorem rcEncLaysOutElevenBitFields : Obligations.RcEncLaysOutElevenBitFields := by
  intro s c hc
  rw [← be2s_eq_flatMap]
  refine ⟨encoded_rcEnc hc, fun h => finish_of_absent h _ _,
    fun h => ⟨pack c, leBytes_length _ _, exec_rcEnc h c, fun k hk j hj => ?_⟩⟩
  rw [pack_getLsbD c _ (by omega), packNat_testBit c k j hj]

/-- Settles O35: (a) and (c) bit by bit of one channel, (b) on the integer of the payload. -/
theorem packAndUnpackRoundTrip : Obligations.PackAndUnpackRoundTrip := by
  refine ⟨fun c _ k => BitVec.eq_of_getLsbD_eq fun j hj => ?_, fun p hp => ?_⟩
  · calc ((unpack (pack c))[k]).getLsbD j
        = (packNat c).testBit (11 * k.val + j) := by
          rw [← BitVec.testBit_toNat, unpack_testBit _ _ _ hj, pack_getLsbD _ _ (by omega)]
      _ = ((c.getD k.val 0).setWidth 11).getLsbD j := by
          rw [packNat_testBit _ _ _ hj, BitVec.getLsbD_setWidth, decide_eq_true hj, Bool.true_and]
  · rw [pack, packNat_unpack hp, ← hp, leBytes_leNat]

/-- Settles O36: the result fits 16 bits, so the answer is the formula's number. -/
theorem rcTousConverts : Obligations.RcTousConverts := by
  refine ⟨rfl, fun a b hab => ?_, fun s raw => ⟨toUsInt_lt raw.isLt,
    encoded_half (o := .rcTous) rfl (fun _ => rfl) raw, fun h => finish_of_absent h _ _, fun h => ?_⟩⟩
  · unfold toUsInt
    exact Nat.div_le_div_right (by omega)
  · rw [exec_rcTous h, toUs_toNat]

/-- Settles O37: the unsaturated formula leaves 16 bits exactly from 41826 up. -/
theorem rcTorawConverts : Obligations.RcTorawConverts := by
  refine fun s us => ⟨toRawInt_lt _, encoded_half (o := .rcToraw) rfl (fun _ => rfl) us,
    fun h => finish_of_absent h _ _, fun h => ?_⟩
  rw [exec_rcToraw h, toRaw_toNat]

/-- Settles O38: each form rounds as the fraction 1024/1639, the first only while its error is less than one part;
at `raw` = 3823 it is more. -/
theorem multiplierForms : Obligations.MultiplierForms := by
  refine ⟨fun raw h => ?_, ⟨3823, by decide, ?_⟩, fun raw => ?_, fun raw => ?_, fun us h => ?_⟩
  · rw [toUs_toNat, toUsInt_eq_nearest raw.isLt, multiplier16_eq_nearest h]
  · rw [toUs_toNat]
    decide
  · rw [toUs_toNat, toUsInt_eq_nearest raw.isLt, multiplier32_eq_nearest raw.isLt]
  · rw [toUs_toNat, toUsInt_eq_nearest raw.isLt]
  · rw [toRaw_toNat, toRawInt_of_ge h, toRawExact_eq_inverse h us.isLt]

/-- Settles O40: an index up to 15 names a register, every other reads the sentinel. -/
theorem rcGetReadsAChannel : Obligations.RcGetReadsAChannel := by
  intro s index
  refine ⟨encoded_of_fixed_length (o := .rcGet) fun _ => rfl, fun h => finish_of_absent h _ _,
    fun h => ⟨fun hlt => ?_, fun hge => ?_⟩⟩
  · rw [exec_rcGet h, channel_of_lt s hlt]
  · rw [exec_rcGet h, channel_of_ge s hge]
    rfl

/-- Settles O41: the answer is the flag byte, whose other bits are 0. -/
theorem rcStatReadsTheFlags : Obligations.RcStatReadsTheFlags := fun _ =>
  ⟨encoded_of_fixed_length (o := .rcStat) fun _ => rfl, fun h => finish_of_absent h _ _,
    fun h => ⟨_, exec_rcStat h, statByte_bits _ _⟩⟩

end Sys2Proof.Proofs

/-! The telemetry encoder TFE: TLM.SETATT, TLM.SETBARO, TLM.SETBAT, TLM.SETGPS, TLM.SETFM and TLM.SEND
(43_telemetry_encoder R180 to R208). -/

namespace Sys2Proof.Proofs

open Sys2Proof.Machine Sys2Proof.Claims

/-! Big-endian values of three and four bytes, in the statements' form and in the model's (00_scope R11). -/

/-- Byte `k` of an integer is byte `k` of every word that reaches up to it. -/
theorem ofInt_byte {w k : Nat} (v : Int) (h : 8 * k + 8 ≤ w) :
    BitVec.ofInt 8 (v / 256 ^ k) = (BitVec.ofInt w v).extractLsb' (8 * k) 8 := by
  obtain ⟨j, rfl⟩ := Nat.exists_eq_add_of_le h
  have hpow : (2 : Int) ^ (8 * k + 8 + j) = 256 ^ k * (256 * 2 ^ j) := by
    rw [pow_add, pow_add, pow_mul, mul_assoc]
    norm_num
  have hdiv : v % 2 ^ (8 * k + 8 + j) / 256 ^ k = v / 256 ^ k - 256 * (2 ^ j * (v / 2 ^ (8 * k + 8 + j))) := by
    rw [Int.emod_def, hpow, mul_assoc, mul_assoc, Int.sub_mul_ediv_left _ _ (by positivity)]
  have hmod := Int.emod_nonneg v (show (2 : Int) ^ (8 * k + 8 + j) ≠ 0 by positivity)
  have hbyte := Int.emod_nonneg (v / 256 ^ k) (show (2 : Int) ^ 8 ≠ 0 by decide)
  apply BitVec.eq_of_toNat_eq
  rw [BitVec.toNat_ofInt, BitVec.extractLsb'_toNat, BitVec.toNat_ofInt, Nat.shiftRight_eq_div_pow, pow_mul]
  zify
  rw [Int.toNat_of_nonneg hbyte, Int.toNat_of_nonneg hmod, show (2 : Int) ^ 8 = 256 from rfl, hdiv,
    Int.sub_mul_emod_self_left]

theorem be_three (v : Int) : be 3 v = be3 (BitVec.ofInt 24 v) := by
  have b2 := ofInt_byte (w := 24) (k := 2) v (by decide)
  have b1 := ofInt_byte (w := 24) (k := 1) v (by decide)
  have b0 := ofInt_byte (w := 24) (k := 0) v (by decide)
  simpa [be, be3, List.range_succ] using And.intro b2 (And.intro b1 b0)

theorem be_four (v : Int) : be 4 v = be4 (BitVec.ofInt 32 v) := by
  have b3 := ofInt_byte (w := 32) (k := 3) v (by decide)
  have b2 := ofInt_byte (w := 32) (k := 2) v (by decide)
  have b1 := ofInt_byte (w := 32) (k := 1) v (by decide)
  have b0 := ofInt_byte (w := 32) (k := 0) v (by decide)
  simpa [be, be4, List.range_succ] using And.intro b3 (And.intro b2 (And.intro b1 b0))

theorem be_two_toInt (v : Half) : be 2 v.toInt = be2 v := by
  rw [be_two, BitVec.ofInt_toInt]

theorem be_four_toInt (v : Word) : be 4 v.toInt = be4 v := by
  rw [be_four, BitVec.ofInt_toInt]

theorem be_four_toNat (v : Word) : be 4 v.toNat = be4 v := by
  rw [be_four, BitVec.ofInt_natCast, BitVec.ofNat_toNat, BitVec.setWidth_eq]

/-! The commands' encodings. -/

/-- A command of a fixed length encodes the instruction its operands are read as. -/
theorem encoded_of_operandsOf {o : Opcode} {rest : List Byte} {i : Instr}
    (hl : ∀ cmd, o.format.commandLength cmd = (o.code :: rest).length) (hi : operandsOf o (o.code :: rest) = i) :
    Encoded i (o.code :: rest) :=
  hi ▸ encoded_of_fixed_length hl

theorem encoded_tlmSetatt (roll pitch yaw : Half) :
    Encoded (.tlmSetatt roll pitch yaw) ([0x40] ++ be2 roll ++ be2 pitch ++ be2 yaw) := by
  refine encoded_of_operandsOf (o := .tlmSetatt) (rest := be2 roll ++ be2 pitch ++ be2 yaw) (fun _ => rfl) ?_
  rw [operandsOf, Instr.tlmSetatt.injEq]
  exact ⟨half_of_bytes roll, half_of_bytes pitch, half_of_bytes yaw⟩

theorem encoded_tlmSetbaro (alt : Word) (vario : Half) :
    Encoded (.tlmSetbaro alt vario) ([0x41] ++ be4 alt ++ be2 vario) := by
  refine encoded_of_operandsOf (o := .tlmSetbaro) (rest := be4 alt ++ be2 vario) (fun _ => rfl) ?_
  rw [operandsOf, Instr.tlmSetbaro.injEq]
  exact ⟨word_of_bytes alt, half_of_bytes vario⟩

theorem encoded_tlmSetbat (voltage current : Half) (fuel : Word) (percent : Byte) :
    Encoded (.tlmSetbat voltage current fuel percent)
      ([0x42] ++ be2 voltage ++ be2 current ++ be4 fuel ++ [percent]) := by
  refine encoded_of_operandsOf (o := .tlmSetbat) (rest := be2 voltage ++ be2 current ++ be4 fuel ++ [percent])
    (fun _ => rfl) ?_
  rw [operandsOf, Instr.tlmSetbat.injEq]
  exact ⟨half_of_bytes voltage, half_of_bytes current, word_of_bytes fuel, rfl⟩

theorem encoded_tlmSetgps (lat lon alt : Word) (speed course : Half) (sats : Byte) :
    Encoded (.tlmSetgps lat lon alt speed course sats)
      ([0x43] ++ be4 lat ++ be4 lon ++ be4 alt ++ be2 speed ++ be2 course ++ [sats]) := by
  refine encoded_of_operandsOf (o := .tlmSetgps)
    (rest := be4 lat ++ be4 lon ++ be4 alt ++ be2 speed ++ be2 course ++ [sats]) (fun _ => rfl) ?_
  rw [operandsOf, Instr.tlmSetgps.injEq]
  exact ⟨word_of_bytes lat, word_of_bytes lon, word_of_bytes alt, half_of_bytes speed, half_of_bytes course, rfl⟩

/-! What each operation answers: ILLEGAL unless the unit and the kind are built, else one response more (60 R254). -/

/-- The two outcomes of an operation that needs its unit and its kind. -/
theorem illegal_or_told {i : Instr} {s t : State} {unit kind : Bool} {bytes : List Byte}
    (h : exec i s = finish (unit && kind) s (told t bytes)) :
    (unit = false ∨ kind = false → Illegal i s) ∧ (unit = true → kind = true → exec i s = .next (told t bytes)) :=
  ⟨fun hoff => h.trans (finish_of_absent (Bool.and_eq_false_iff.mpr hoff) _ _),
    fun hu hk => h.trans (finish_of_built (Bool.and_eq_true_iff.mpr ⟨hu, hk⟩) _ _)⟩

/-! TLM.SETFM by its identifier (R202). -/

theorem exec_tlmSetfm_of_lt {s : State} (h : (s.cfg.enTlm && s.cfg.enFm) = true) {id : Byte} (hid : id.toNat < 8)
    (armed : Byte) :
    exec (.tlmSetfm id armed) s = .next (told
      { s with fmId := ⟨id.toNat, hid⟩, fmArmed := if armed = 0 then false else true } [0x00, 0x01]) := by
  have hsome : fmIdOf id = some ⟨id.toNat, hid⟩ := fmIdOf_eq_some.mpr rfl
  have harmed : (armed != 0) = if armed = 0 then false else true := by
    by_cases ha : armed = 0
    · subst ha
      rfl
    · rw [if_neg ha]
      exact bne_iff_ne.mpr ha
  simp only [exec, execTlmSetfm, hsome, harmed, finish_of_built h]
  rfl

theorem exec_tlmSetfm_of_ge {s : State} (h : (s.cfg.enTlm && s.cfg.enFm) = true) {id : Byte} (hid : 8 ≤ id.toNat)
    (armed : Byte) : exec (.tlmSetfm id armed) s = .next (told s [0x00, 0x00]) := by
  simp only [exec, execTlmSetfm, fmIdOf_eq_none.mpr hid, finish_of_built h]
  rfl

/-! The attitude payload (R186 to R188). -/

/-- `n` rounds are enough for an angle at most `n` turns above the range: whole turns taken off (R188). -/
theorem wrapDown_eq {n : Nat} {d : Int} (h : d ≤ 1800 + 3600 * n) :
    wrapDown n d = if d > 1800 then d - 3600 * ((d - 1800 + 3599) / 3600) else d := by
  induction n generalizing d with
  | zero => rw [wrapDown, if_neg (by omega)]
  | succ n ih =>
    rw [wrapDown]
    split
    · rw [ih (by omega)]
      omega
    · rfl

/-- The loop from below, as `wrapDown_eq` from above. -/
theorem wrapUp_eq {n : Nat} {d : Int} (h : -1800 - 3600 * n ≤ d) :
    wrapUp n d = if d < -1800 then d + 3600 * ((-1800 - d + 3599) / 3600) else d := by
  induction n generalizing d with
  | zero => rw [wrapUp, if_neg (by omega)]
  | succ n ih =>
    rw [wrapUp]
    split
    · rw [ih (by omega)]
      omega
    · rfl

/-- Nine rounds of each loop are enough for a 16-bit angle, and only one of the two loops runs. -/
theorem attWrap_eq_wrapped (d : Half) : attWrap d.toInt = wrapped d.toInt := by
  have hhi := BitVec.toInt_lt (x := d)
  have hlo := BitVec.le_toInt d
  rw [attWrap, wrapDown_eq (by omega), wrapped]
  split
  · rw [wrapUp_eq (by omega), if_neg (by omega)]
  · exact wrapUp_eq (by omega)

theorem wrapped_bounds (d : Int) : -1800 ≤ wrapped d ∧ wrapped d ≤ 1800 := by
  unfold wrapped
  omega

/-- Shifting the magnitude and restoring the sign is the division truncated toward zero, on either side of 0 (R187). -/
theorem attConv_eq_attUnits (d : Half) : attConv d = attUnits d.toInt := by
  rw [attConv, attWrap_eq_wrapped, attUnits, Params.kAttQ16, Nat.shiftRight_eq_div_pow]
  split <;> omega

theorem payloadAtt_eq (roll pitch yaw : Half) :
    payloadAtt roll pitch yaw =
      be 2 (attUnits pitch.toInt) ++ be 2 (attUnits roll.toInt) ++ be 2 (attUnits yaw.toInt) := by
  rw [payloadAtt, attConv_eq_attUnits, attConv_eq_attUnits, attConv_eq_attUnits, be_two, be_two, be_two]

/-- Half a turn, 1800 decidegrees, is 31415 units. -/
theorem attUnits_bounds (d : Int) : -31415 ≤ attUnits d ∧ attUnits d ≤ 31415 := by
  obtain ⟨hlo, hhi⟩ := wrapped_bounds d
  unfold attUnits
  split <;> omega

/-! The barometer payload (R189, R190). -/

/-- A value in whole meters leaves bit 15 free for its mark. -/
theorem or_mark {v : Int} (h0 : 0 ≤ v) (h : v < 0x8000) :
    BitVec.ofInt 16 v ||| 0x8000 = BitVec.ofInt 16 (v + 0x8000) := by
  obtain ⟨n, rfl⟩ := Int.eq_ofNat_of_zero_le h0
  have hmark : n ||| 0x8000 = n + 0x8000 := or_shiftLeft_eq_add (i := 15) 1 (by omega)
  have hsum : (n : Int) + 0x8000 = (n + 0x8000 : Nat) := rfl
  apply BitVec.eq_of_toNat_eq
  rw [hsum, BitVec.ofInt_natCast, BitVec.ofInt_natCast, BitVec.toNat_or, BitVec.toNat_ofNat, BitVec.toNat_ofNat,
    Nat.mod_eq_of_lt (by omega), Nat.mod_eq_of_lt (by omega)]
  exact hmark

/-- Branch by branch of R190: the codes below the mark are sums, those above it carry the mark as a summand. -/
theorem altPacked_eq (a : Int) : altPacked a = BitVec.ofInt 16 (altCode a) := by
  unfold altPacked altCode Params.altMinDm Params.altMaxDm Params.altThresholdDm
  split
  · rfl
  split
  · rfl
  split
  · rfl
  · exact or_mark (by omega) (by omega)

theorem payloadBaro_eq (alt : Word) (vario : Half) :
    payloadBaro alt vario = be 2 (altCode alt.toInt) ++ be 2 vario.toInt := by
  rw [payloadBaro, altPacked_eq, be_two, be_two_toInt]

/-- Decimeters end at 0x7FFF, and meters begin at 0x88E5, the code of the threshold. -/
theorem altCode_range (a : Int) : 0 ≤ altCode a ∧ altCode a < 0xFFFF ∧ ¬ (0x8000 ≤ altCode a ∧ altCode a ≤ 0x88E4) := by
  unfold altCode
  split
  · omega
  split
  · omega
  split <;> omega

/-! The other payloads (R192 to R199). -/

theorem tenth_eq (v : Half) : be2 (tenth v) = be 2 ((v.toNat + 5) / 10) := by
  rw [be_two, tenth]
  norm_cast

theorem payloadBat_eq (voltage current : Half) (fuel : Word) (percent : Byte) :
    payloadBat voltage current fuel percent =
      be 2 ((voltage.toNat + 5) / 10) ++ be 2 ((current.toNat + 5) / 10) ++
        be 3 (min fuel.toNat 0xFFFFFF : Nat) ++ [percent] := by
  rw [payloadBat, tenth_eq, tenth_eq, be_three, BitVec.ofInt_natCast]

theorem clamp_eq (v : Int) : clamp v 0 65535 = max 0 (min 65535 v) := by
  unfold clamp
  omega

theorem payloadGps_eq (lat lon alt : Word) (speed course : Half) (sats : Byte) :
    payloadGps lat lon alt speed course sats =
      be 4 lat.toInt ++ be 4 lon.toInt ++ be 2 ((speed.toNat * 36 + 50) / 100) ++
        be 2 (course.toNat % 3600 * 10) ++ be 2 (max 0 (min 65535 (alt.toInt / 100 + 1000))) ++ [sats] := by
  have hspeed : gpsSpeedWire speed = BitVec.ofInt 16 ((speed.toNat * 36 + 50) / 100) := by
    rw [gpsSpeedWire]
    norm_cast
  have hcourse : gpsHeadingWire course = BitVec.ofInt 16 (course.toNat % 3600 * 10) := by
    rw [gpsHeadingWire]
    norm_cast
  rw [payloadGps, hspeed, hcourse, gpsAltWire, clamp_eq, be_four_toInt, be_four_toInt, be_two, be_two, be_two]
  rfl

theorem fmText_eq_modeText : ∀ id : Fin 8, fmText id = modeText.getD id.val [] := by decide

/-- The text has three or four bytes, and the star may stand between it and the terminator (R199, R203). -/
theorem payloadFm_length : ∀ (starWhen : Bool) (id : Fin 8) (armed : Bool),
    4 ≤ (payloadFm starWhen id armed).length ∧ (payloadFm starWhen id armed).length ≤ 6 := by
  decide

/-! The frame of each kind (R204, R206). -/

theorem kindEnabled_eq_kindOn (cfg : Config) : ∀ k : Fin 5, kindEnabled cfg k = kindOn cfg k.val
  | 0 => rfl
  | 1 => rfl
  | 2 => rfl
  | 3 => rfl
  | 4 => rfl

theorem kindType_eq_sentType : ∀ k : Fin 5, kindType k = sentType k.val := by decide

theorem kindPayload_eq_sentPayload (s : State) : ∀ k : Fin 5, s.kindPayload k = sentPayload s k.val
  | 0 => payloadAtt_eq _ _ _
  | 1 => payloadBaro_eq _ _
  | 2 => payloadBat_eq _ _ _ _
  | 3 => payloadGps_eq _ _ _ _ _ _
  | 4 => by
    rw [State.kindPayload, payloadFm, fmText_eq_modeText]
    rfl

/-- From the barometer's 4 bytes to the position's 15 (R189, R194). -/
theorem kindPayload_length (s : State) : ∀ k : Fin 5, 4 ≤ (s.kindPayload k).length ∧ (s.kindPayload k).length ≤ 15
  | 0 => by simp [State.kindPayload, payloadAtt]
  | 1 => by simp [State.kindPayload, payloadBaro]
  | 2 => by simp [State.kindPayload, payloadBat]
  | 3 => by simp [State.kindPayload, payloadGps]
  | 4 =>
    have ⟨hmin, hmax⟩ := payloadFm_length s.cfg.fmStarWhen s.fmId s.fmArmed
    ⟨hmin, hmax.trans (by decide)⟩

theorem kindFrame_eq_wireFrame (s : State) (k : Fin 5) :
    s.kindFrame k = wireFrame s.cfg (sentType k.val) (sentPayload s k.val) := by
  rw [State.kindFrame, kindType_eq_sentType, kindPayload_eq_sentPayload]
  rfl

theorem exec_tlmSend_of_lt {s : State} {kind : Byte} (hk : kind.toNat < 5) :
    exec (.tlmSend kind) s = finish (s.cfg.enTlm && kindOn s.cfg kind.toNat) s
      (told s (0x00 :: wireFrame s.cfg (sentType kind.toNat) (sentPayload s kind.toNat))) := by
  have hsome : kindOf kind = some ⟨kind.toNat, hk⟩ := kindOf_eq_some.mpr rfl
  simp only [exec, execTlmSend, hsome, kindEnabled_eq_kindOn, kindFrame_eq_wireFrame]
  rfl

theorem exec_tlmSend_of_ge {s : State} {kind : Byte} (hk : 5 ≤ kind.toNat) :
    exec (.tlmSend kind) s = finish s.cfg.enTlm s (told s [0x00]) := by
  simp only [exec, execTlmSend, kindOf_eq_none.mpr hk]
  rfl

/-- TLM.SEND of a built kind answers that kind's frame and changes nothing else. -/
theorem exec_tlmSend_of_built {s : State} {kind : Byte} (hk : kind.toNat < 5) (ht : s.cfg.enTlm = true)
    (hon : kindOn s.cfg kind.toNat = true) :
    exec (.tlmSend kind) s =
      .next (told s (0x00 :: wireFrame s.cfg (sentType kind.toNat) (sentPayload s kind.toNat))) :=
  (illegal_or_told (exec_tlmSend_of_lt hk)).2 ht hon

/-! A sent frame received back (R208). -/

/-- A frame not routed to RCU, fed from `IDLE` with its own checksum: the whole next state (R131, R132). -/
theorem feed_wireFrame_of_not_toRcu (s : State) (t : Byte) (p : List Byte) (h : s.rxState = .idle)
    (hp : p.length ≤ 60) (hrc : ¬ ToRcu s.cfg t (p.length + 2)) :
    ∃ buf, buf.toList = p ++ s.rxBuf.toList.drop p.length ∧
      s.feed (wireFrame s.cfg t p) =
        { s with
          rxState := .idle, rxLen := BitVec.ofNat 8 (p.length + 2), rxType := t, rxCnt := 0
          rxCrc := crc8 s.cfg (t :: p), rxBuf := buf
          rsps := s.rsps ++ List.replicate (p.length + 3) [0x01] ++
            [[0x02, lsEvent s.cfg t (p.length + 2), BitVec.ofNat 8 (p.length + 2), t] ++ p ++
              [crc8 s.cfg (t :: p)]] } := by
  obtain ⟨buf, hbuf, hfeed⟩ := feed_to_checksum s t p h hp
  refine ⟨buf, hbuf, ?_⟩
  have hlen : (BitVec.ofNat 8 (p.length + 2)).toNat = p.length + 2 := Nat.mod_eq_of_lt (by omega)
  have hcnt : (BitVec.ofNat 6 p.length).toNat = p.length := Nat.mod_eq_of_lt (by omega)
  rw [wireFrame, feed_append, feed_cons, feed_nil, State.receive]
  generalize s.feed ([0xC8, BitVec.ofNat 8 (p.length + 2), t] ++ p) = u at hfeed ⊢
  have hpay : u.payloadRead = p := by rw [State.payloadRead, hfeed, hcnt, hbuf, List.take_left]
  have hframe : receivedFrame (crc8 s.cfg (t :: p)) u = ⟨BitVec.ofNat 8 (p.length + 2), t, p, crc8 s.cfg (t :: p)⟩ := by
    rw [receivedFrame, hpay, hfeed]
  have hroute : ¬ ToRcu u.cfg t (BitVec.ofNat 8 (p.length + 2)).toNat := by
    rw [hlen, hfeed]
    exact hrc
  rw [rxStep_of_checksum_eq (by rw [hfeed]) (by rw [hfeed]), hframe, routeFrame_of_not_toRcu hroute,
    routeEvents_of_not_toRcu hroute, hlen, hfeed]
  rfl

/-- No telemetry type is the RC-channel or the link-statistics type (R204). -/
theorem sentType_ne : ∀ k : Fin 5, sentType k.val ≠ 0x16 ∧ sentType k.val ≠ 0x14 := by decide

/-! The statements. -/

/-- Settles O44: three halves in, three registers written. -/
theorem tlmSetattStagesTheAttitude : Obligations.TlmSetattStagesTheAttitude := by
  intro s roll pitch yaw
  rw [be_two_toInt, be_two_toInt, be_two_toInt]
  exact ⟨encoded_tlmSetatt roll pitch yaw, illegal_or_told rfl⟩

/-- Settles O45: a word and a half in, two registers written. -/
theorem tlmSetbaroStagesTheAltitude : Obligations.TlmSetbaroStagesTheAltitude := by
  intro s alt vario
  rw [be_four_toInt, be_two_toInt]
  exact ⟨encoded_tlmSetbaro alt vario, illegal_or_told rfl⟩

/-- Settles O46: the four operands in, four registers written. -/
theorem tlmSetbatStagesTheBattery : Obligations.TlmSetbatStagesTheBattery := by
  intro s voltage current fuel percent
  rw [be_two_toNat, be_two_toNat, be_four_toNat]
  exact ⟨encoded_tlmSetbat voltage current fuel percent, illegal_or_told rfl⟩

/-- Settles O47: the six operands in, six registers written. -/
theorem tlmSetgpsStagesThePosition : Obligations.TlmSetgpsStagesThePosition := by
  intro s lat lon alt speed course sats
  rw [be_four_toInt, be_four_toInt, be_four_toInt, be_two_toNat, be_two_toNat]
  exact ⟨encoded_tlmSetgps lat lon alt speed course sats, illegal_or_told rfl⟩

/-- Settles O48: the identifier is in range below 8, and nothing is staged otherwise. -/
theorem tlmSetfmStagesTheMode : Obligations.TlmSetfmStagesTheMode := by
  intro s id armed
  refine ⟨encoded_of_fixed_length (o := .tlmSetfm) fun _ => rfl,
    fun h => finish_of_absent (Bool.and_eq_false_iff.mpr h) _ _, fun ht hon => ?_⟩
  have hbuilt := Bool.and_eq_true_iff.mpr ⟨ht, hon⟩
  exact ⟨fun hid => exec_tlmSetfm_of_lt hbuilt hid armed, fun hid => exec_tlmSetfm_of_ge hbuilt hid armed⟩

/-- Settles O49: kind 0 of TLM.SEND, and the bound on a wrapped angle. -/
theorem tlmSendAttitude : Obligations.TlmSendAttitude :=
  ⟨fun _ ht hon => exec_tlmSend_of_built (kind := 0) (by decide) ht hon, fun d => attUnits_bounds d.toInt⟩

/-- Settles O50: kind 1 of TLM.SEND, and the codes the four branches leave out. -/
theorem tlmSendBaro : Obligations.TlmSendBaro :=
  fun s ht hon => ⟨exec_tlmSend_of_built (kind := 1) (by decide) ht hon, altCode_range s.baroAlt.toInt⟩

/-- Settles O51: below 5 the kind's own enable decides beside the unit's, above it the unit's alone. -/
theorem tlmSendOfEveryKind : Obligations.TlmSendOfEveryKind := by
  intro s kind
  refine ⟨encoded_of_fixed_length (o := .tlmSend) fun _ => rfl, fun h => ?_, fun ht hk => ?_,
    fun ht hk hon => exec_tlmSend_of_built hk ht hon⟩
  · rcases Nat.lt_or_ge kind.toNat 5 with hk | hk
    · exact (illegal_or_told (exec_tlmSend_of_lt hk)).1 (h.imp_right And.right)
    · have hoff := h.resolve_right fun hlt => absurd hlt.1 (by omega)
      exact (exec_tlmSend_of_ge hk).trans (finish_of_absent hoff _ _)
  · rw [exec_tlmSend_of_ge hk, finish_of_built ht]

/-- Settles O52: the frame has a payload of 4 to 15 bytes and a type that is routed nowhere, so the receiver completes it
and keeps all else. -/
theorem sentFramesLoopBack : Obligations.SentFramesLoopBack := by
  intro s k ht hon hidle
  obtain ⟨hrcType, hlsType⟩ := sentType_ne k
  obtain ⟨hmin, hmax⟩ := kindPayload_length s k
  rw [kindPayload_eq_sentPayload] at hmin hmax
  have hkind : (BitVec.ofNat 8 k.val).toNat = k.val := Nat.mod_eq_of_lt (by omega)
  have hsend := exec_tlmSend_of_built (s := s) (kind := BitVec.ofNat 8 k.val) (by omega) ht (by rwa [hkind])
  rw [hkind] at hsend
  generalize sentType k.val = t, sentPayload s k.val = p at *
  have hlen : (BitVec.ofNat 8 (p.length + 2)).toNat = p.length + 2 := Nat.mod_eq_of_lt (by omega)
  have hev : lsEvent s.cfg t (p.length + 2) = 0x00 := if_neg fun ⟨_, _, hls, _⟩ => hlsType hls
  obtain ⟨buf, -, hfeed⟩ := feed_wireFrame_of_not_toRcu s t p hidle (by omega) fun ⟨_, hrc, _⟩ => hrcType hrc
  rw [hev] at hfeed
  refine ⟨BitVec.ofNat 8 (p.length + 2), t, crc8 s.cfg (t :: p), p, s.feed (wireFrame s.cfg t p), hlen, by omega,
    by omega, rfl, hsend, rxFeed_eq_feed _ s, ?_⟩
  rw [hfeed]
  simp [SameOutside]

end Sys2Proof.Proofs

/-! The adjacent units LSX, FMC and SCH: LS.DEC, FM.SET, FM.HANDLE, TLM.UPDATE and TLM.SENDNEXT
(44_adjacent_units R220 to R233). -/

namespace Sys2Proof.Proofs

open Sys2Proof.Machine Sys2Proof.Claims

/-! LS.DEC: the record and its bytes (R221, R222). -/

/-- The bytes read at every offset of a string, in order, are the string. -/
theorem map_byteAt_range (p : List Byte) : (List.range p.length).map (byteAt p) = p := by
  refine List.ext_getElem (by simp) fun k _ hk => ?_
  rw [List.getElem_map, List.getElem_range]
  exact (List.getElem_eq_getD 0).symm

theorem linkStatsBytes_linkStatsOf {p : List Byte} (hp : p.length = 10) : linkStatsBytes (linkStatsOf p) = p := by
  have h := map_byteAt_range p
  rw [hp] at h
  exact h

theorem exec_lsDec {p : List Byte} (hp : p.length = 10) (s : State) :
    exec (.lsDec p) s = finish (s.cfg.hasAdj && s.cfg.enLs) s (told s (0x00 :: p)) := by
  rw [exec, execLsDec, linkStatsBytes_linkStatsOf hp]
  rfl

theorem encoded_lsDec {p : List Byte} (hp : p.length = 10) : Encoded (.lsDec p) ([0x50] ++ p) := by
  refine encoded_of_operandsOf (o := .lsDec) (rest := p) (fun _ => by rw [List.length_cons, hp]; rfl) ?_
  rw [operandsOf, bytesAt, List.drop_one, List.tail_cons, ← hp, List.take_length]

/-! FM.SET: one slot, or a soft failure (R226). -/

theorem encoded_fmSet (id channel : Byte) (min max : Half) :
    Encoded (.fmSet id channel min max) ([0x60, id, channel] ++ be2 min ++ be2 max) := by
  refine encoded_of_operandsOf (o := .fmSet) (rest := [id, channel] ++ be2 min ++ be2 max) (fun _ => rfl) ?_
  rw [operandsOf, Instr.fmSet.injEq]
  exact ⟨rfl, rfl, half_of_bytes min, half_of_bytes max⟩

theorem exec_fmSet_of_lt {s : State} (h : s.cfg.hasAdj = true) {id channel : Byte} (hi : id.toNat < 8)
    (hc : channel.toNat < 16) (min max : Half) :
    exec (.fmSet id channel min max) s =
      .next (told { s with fmSlot := s.fmSlot.set id.toNat ⟨⟨channel.toNat, hc⟩, min, max⟩ } [0x00, 0x01]) := by
  have hid : fmIdOf id = some ⟨id.toNat, hi⟩ := fmIdOf_eq_some.mpr rfl
  have hch : channelOf channel = some ⟨channel.toNat, hc⟩ := channelOf_eq_some.mpr rfl
  simp only [exec, execFmSet, hid, hch, finish_of_built h]
  rfl

theorem exec_fmSet_of_ge {s : State} (h : s.cfg.hasAdj = true) {id channel : Byte}
    (hout : 8 ≤ id.toNat ∨ 16 ≤ channel.toNat) (min max : Half) :
    exec (.fmSet id channel min max) s = .next (told s [0x00, 0x00]) := by
  rw [exec, execFmSet, finish_of_built h]
  rcases hout with hi | hc
  · rw [fmIdOf_eq_none.mpr hi]
    rfl
  · rw [channelOf_eq_none.mpr hc]
    cases fmIdOf id <;> rfl

/-! FM.HANDLE: the least matching identifier (R227). -/

theorem slotMatches_iff (s : State) (id : Fin 8) : s.slotMatches id = true ↔ SlotMatches s id := by
  rw [State.slotMatches, Bool.and_eq_true, decide_eq_true_iff, decide_eq_true_iff]
  rfl

/-- The loop of R227 visits the identifiers in ascending order. -/
theorem fmIds_eq_finRange : fmIds = List.finRange 8 := by decide

theorem classify_of_first {s : State} {id : Fin 8} (hm : SlotMatches s id) (hlow : ∀ j < id, ¬ SlotMatches s j) :
    s.classify = some id := by
  rw [State.classify, fmIds_eq_finRange, List.find?_eq_some_iff_getElem]
  refine ⟨(slotMatches_iff s id).mpr hm, id.val, by simp, by simp, fun j hj => ?_⟩
  rw [List.getElem_finRange, Bool.not_eq_true', Bool.eq_false_iff, ne_eq, slotMatches_iff]
  exact hlow _ hj

theorem classify_of_none {s : State} (hnone : ∀ id, ¬ SlotMatches s id) : s.classify = none :=
  List.find?_eq_none.mpr fun id _ hm => hnone id ((slotMatches_iff s id).mp hm)

theorem exec_fmHandle_of_some {s : State} (h : s.cfg.hasAdj = true) {id : Fin 8} (hc : s.classify = some id) :
    exec .fmHandle s = .next (told s [0x00, 0x01, BitVec.ofNat 8 id.val]) := by
  rw [exec, execFmHandle, finish_of_built h, hc]
  rfl

theorem exec_fmHandle_of_none {s : State} (h : s.cfg.hasAdj = true) (hc : s.classify = none) :
    exec .fmHandle s = .next (told s [0x00, 0x00]) := by
  rw [exec, execFmHandle, finish_of_built h, hc]
  rfl

/-! TLM.UPDATE: elapsed time (R230, R231). -/

theorem encoded_tlmUpdate (now : Word) : Encoded (.tlmUpdate now) ([0x70] ++ be4 now) := by
  refine encoded_of_operandsOf (o := .tlmUpdate) (fun _ => rfl) ?_
  rw [operandsOf, Instr.tlmUpdate.injEq]
  exact word_of_bytes now

/-- The word difference is the elapsed time modulo 2^32. -/
theorem elapsed_eq_sub (now last : Word) : elapsed now last = ((now - last).toNat : Int) := by
  rw [elapsed, BitVec.toNat_sub]
  omega

theorem exec_tlmUpdate (s : State) (now : Word) :
    exec (.tlmUpdate now) s = finish (s.cfg.enTlm && s.cfg.hasAdj) s
      (if (s.cfg.tlmInterval.toNat : Int) ≤ elapsed now s.tlmLast then told { s with tlmLast := now } [0x00, 0x01]
       else told s [0x00, 0x00]) := by
  simp only [elapsed_eq_sub, Int.ofNat_le]
  rfl

/-! TLM.SENDNEXT: the kinds in turn (R233). -/

/-- Kind `j` behind the next kind is kind `j + 1` behind this one. -/
theorem kind_succ_add_mod (k : Fin 5) (j : Nat) : ((k + 1).val + j) % 5 = (k.val + (j + 1)) % 5 := by
  rw [Fin.val_add, Nat.mod_add_mod, Nat.add_assoc, Nat.add_comm j 1]
  rfl

theorem nextKind_succ (cfg : Config) (n : Nat) (k : Fin 5) :
    nextKind cfg (n + 1) k = if kindOn cfg k.val then some k else nextKind cfg n (k + 1) := by
  rw [nextKind, kindEnabled_eq_kindOn]

/-- The search stops at the first enabled kind, if it looks that far. -/
theorem nextKind_of_first {cfg : Config} {n j : Nat} {k : Fin 5} (hj : j < n)
    (hon : kindOn cfg ((k.val + j) % 5) = true) (hoff : ∀ i < j, kindOn cfg ((k.val + i) % 5) = false) :
    nextKind cfg n k = some (Fin.ofNat 5 (k.val + j)) := by
  induction j generalizing n k with
  | zero =>
    obtain ⟨n, rfl⟩ := Nat.exists_eq_add_one.mpr hj
    rw [Nat.add_zero, Nat.mod_eq_of_lt k.isLt] at hon
    rw [nextKind_succ, if_pos hon, Nat.add_zero, Fin.ofNat_val_eq_self]
  | succ j ih =>
    obtain ⟨n, rfl⟩ := Nat.exists_eq_add_one.mpr (Nat.zero_lt_of_lt hj)
    have hk := hoff 0 j.succ_pos
    rw [Nat.add_zero, Nat.mod_eq_of_lt k.isLt] at hk
    have hrest := ih (k := k + 1) (Nat.lt_of_succ_lt_succ hj) (by rwa [kind_succ_add_mod]) fun i hi => by
      rw [kind_succ_add_mod]
      exact hoff _ (Nat.succ_lt_succ hi)
    rw [nextKind_succ, hk, if_neg Bool.false_ne_true, hrest, Option.some.injEq, Fin.ext_iff]
    exact kind_succ_add_mod k j

theorem nextKind_of_none {cfg : Config} (hnone : ∀ k < 5, kindOn cfg k = false) (n : Nat) (k : Fin 5) :
    nextKind cfg n k = none := by
  induction n generalizing k with
  | zero => rfl
  | succ n ih => rw [nextKind_succ, hnone k.val k.isLt, if_neg Bool.false_ne_true, ih]

theorem exec_tlmSendnext_of_some {s : State} (h : (s.cfg.enTlm && s.cfg.hasAdj) = true) {k : Fin 5}
    (hk : nextKind s.cfg 5 s.tlmIdx = some k) :
    exec .tlmSendnext s = .next (told { s with tlmIdx := k + 1 } (0x00 :: s.kindFrame k)) := by
  rw [exec, execTlmSendnext, finish_of_built h, hk]
  rfl

theorem exec_tlmSendnext_of_none {s : State} (h : (s.cfg.enTlm && s.cfg.hasAdj) = true)
    (hk : nextKind s.cfg 5 s.tlmIdx = none) : exec .tlmSendnext s = .next (told s [0x00]) := by
  rw [exec, execTlmSendnext, finish_of_built h, hk]
  rfl

/-- TLM.SEND of a built kind answers the frame TLM.SENDNEXT takes for that kind. -/
theorem exec_tlmSend_kindFrame {s : State} (k : Fin 5) (ht : s.cfg.enTlm = true) (hon : kindOn s.cfg k.val = true) :
    exec (.tlmSend (BitVec.ofNat 8 k.val)) s = .next (told s (0x00 :: s.kindFrame k)) := by
  have hkind : (BitVec.ofNat 8 k.val).toNat = k.val := Nat.mod_eq_of_lt (by omega)
  rw [exec_tlmSend_of_built (by omega) ht (by rwa [hkind]), hkind, kindFrame_eq_wireFrame]

/-! The statements. -/

/-- Settles O53: the ten bytes are the ten fields, and the record's bytes are the payload again. -/
theorem lsDecReturnsTheFields : Obligations.LsDecReturnsTheFields := by
  intro s p hp
  obtain ⟨hill, hok⟩ := illegal_or_told (exec_lsDec hp s)
  exact ⟨encoded_lsDec hp, fun h => hill h.symm, hok⟩

/-- Settles O54: the table with one entry set, and the two operands' bounds. -/
theorem fmSetConfiguresASlot : Obligations.FmSetConfiguresASlot := by
  intro s id channel min max
  rw [be_two_toNat, be_two_toNat]
  refine ⟨encoded_fmSet id channel min max, fun h => finish_of_absent h _ _, fun h => ⟨fun hi hc => ?_,
    fun hout => exec_fmSet_of_ge h hout min max⟩⟩
  exact ⟨s.fmSlot.set id.toNat ⟨⟨channel.toNat, hc⟩, min, max⟩, Vector.getElem_set_self hi,
    fun j hj => Vector.getElem_set_ne hi j.isLt hj.symm, exec_fmSet_of_lt h hi hc min max⟩

/-- Settles O55: the search is in ascending order, so what it finds is the least match. -/
theorem fmHandleFirstMatchWins : Obligations.FmHandleFirstMatchWins := by
  intro s
  refine ⟨encoded_of_fixed_length (o := .fmHandle) fun _ => rfl, fun h => finish_of_absent h _ _, fun h => ⟨?_, ?_⟩⟩
  · exact fun id hm hlow => exec_fmHandle_of_some h (classify_of_first hm hlow)
  · exact fun hnone => exec_fmHandle_of_none h (classify_of_none hnone)

/-- Settles O56: the model's word difference is the elapsed time. -/
theorem tlmUpdateComparesElapsedTime : Obligations.TlmUpdateComparesElapsedTime := by
  intro s now
  rw [be_four_toNat]
  exact ⟨encoded_tlmUpdate now, fun h => finish_of_absent (Bool.and_eq_false_iff.mpr h) _ _, fun ht ha =>
    (exec_tlmUpdate s now).trans (finish_of_built (Bool.and_eq_true_iff.mpr ⟨ht, ha⟩) _ _)⟩

/-- Settles O58: five kinds are looked at from `tlm_idx` on, so the first enabled one is found, and its frame is that of
TLM.SEND. -/
theorem tlmSendnextSendsTheNextEnabledKind : Obligations.TlmSendnextSendsTheNextEnabledKind := by
  intro s
  refine ⟨encoded_of_fixed_length (o := .tlmSendnext) fun _ => rfl,
    fun h => finish_of_absent (Bool.and_eq_false_iff.mpr h) _ _, fun ht ha => ?_⟩
  have hbuilt := Bool.and_eq_true_iff.mpr ⟨ht, ha⟩
  refine ⟨fun j hj hon hoff => ?_, fun hnone => exec_tlmSendnext_of_none hbuilt (nextKind_of_none hnone 5 s.tlmIdx)⟩
  exact ⟨s.kindFrame (Fin.ofNat 5 (s.tlmIdx.val + j)), Fin.ofNat 5 (s.tlmIdx.val + j) + 1, Nat.mod_add_mod _ 5 1,
    exec_tlmSend_kindFrame (Fin.ofNat 5 (s.tlmIdx.val + j)) ht hon,
    exec_tlmSendnext_of_some hbuilt (nextKind_of_first hj hon hoff)⟩

end Sys2Proof.Proofs

/-! The answers ILLEGAL and REJECTED (60_exceptions R250 to R254). -/

namespace Sys2Proof.Proofs

open Sys2Proof.Machine Sys2Proof.Claims

/-! ILLEGAL: commands no row accepts, and operations whose unit is not built (R254). -/

/-- The rows of R76 are the decoder's operations, each with its code and its format's length. -/
theorem commandRows_eq : commandRows = Opcode.all.map fun o => (o.code, o.format.commandLength) := rfl

theorem mem_opcodeAll (o : Opcode) : o ∈ Opcode.all := by cases o <;> decide

theorem accepted_of_decode {cmd : List Byte} {i : Instr} (h : decode cmd = .ok i) : Accepted cmd := by
  obtain ⟨o, hcode, hlen, -⟩ := decode_eq_ok h
  refine ⟨(o.code, o.format.commandLength), ?_, hcode, hlen⟩
  rw [commandRows_eq]
  exact List.mem_map_of_mem (mem_opcodeAll o)

theorem runCommand_of_not_accepted {cmd : List Byte} (h : ¬ Accepted cmd) (s : State) :
    runCommand cmd s = .next (told s [0xFF]) := by
  cases hd : decode cmd with
  | ok i => exact absurd (accepted_of_decode hd) h
  | error e =>
    rw [runCommand, hd]
    rfl

theorem illegal_tlmSend {s : State} {kind : Byte} (h : unitAbsent s.cfg (.tlmSend kind) = true) :
    Illegal (.tlmSend kind) s := by
  by_cases hk : kind.toNat < 5
  · refine (illegal_or_told (exec_tlmSend_of_lt hk)).1 ?_
    simpa [unitAbsent, hk] using h
  · refine (exec_tlmSend_of_ge (Nat.le_of_not_lt hk)).trans (finish_of_absent ?_ _ _)
    simpa [unitAbsent, hk] using h

/-- The guard of each operation names the enables that R254 (d) and (e) give it: its unit's alone, its unit's and its
kind's, or `EN_TLM` and `HAS_ADJ`. -/
theorem illegal_of_unitAbsent {s : State} {i : Instr} (h : unitAbsent s.cfg i = true) : Illegal i s := by
  cases i
  case rcDec | rcEnc | rcTous | rcToraw | rcGet | rcStat | fmSet | fmHandle =>
    exact finish_of_absent (by simpa [unitAbsent] using h) _ _
  case tlmSetatt | tlmSetbaro | tlmSetbat | tlmSetgps | tlmSetfm | lsDec =>
    exact finish_of_absent (Bool.and_eq_false_iff.mpr (by simpa [unitAbsent] using h)) _ _
  case tlmUpdate | tlmSendnext =>
    exact finish_of_absent (Bool.and_eq_false_iff.mpr (by simpa [unitAbsent, or_comm] using h)) _ _
  case tlmSend kind => exact illegal_tlmSend h
  all_goals exact absurd h Bool.false_ne_true

/-! REJECTED: the two rows of R122 that raise it (R251). -/

/-- The status byte 0x03 is REJECTED's alone, and beside it stands only the cause. -/
theorem eq_rejected_of_responseBytes {r : Response} {rs : List Byte} (h : responseBytes r = 0x03 :: rs) :
    ∃ c, r = .rejected c ∧ rs = [causeByte c] := by
  cases r with
  | rejected c => exact ⟨c, rfl, (List.cons.inj h).2.symm⟩
  | _ => exact absurd (List.cons.inj h).1 (by decide)

/-- A rejected byte arrived in one of two states and has that state's cause. -/
theorem rxStep_of_rejected {s : State} {b : Byte} {c : Cause} (hr : (rxStep b s).2 = .rejected c) :
    (s.rxState = .awaitLen ∧ ¬ (2 ≤ b.toNat ∧ b.toNat ≤ 62) ∧ c = .badLength ∧
        rxStep b s = ({ s with rxState := .idle }, .rejected .badLength)) ∨
      (s.rxState = .awaitCrc ∧ b ≠ s.rxCrc ∧ c = .crcMismatch ∧
        rxStep b s = (s.endFrame, .rejected .crcMismatch)) := by
  rcases rxStep_cases b s with
    ⟨_, h⟩ | ⟨_, _, _, h⟩ | ⟨hs, hb, h⟩ | ⟨_, h⟩ | ⟨_, h⟩ | ⟨_, _, h⟩ | ⟨hs, hb, h⟩ <;> rw [h] at hr
  case inr.inr.inl => exact .inl ⟨hs, hb, (Response.rejected.inj hr).symm, h⟩
  case inr.inr.inr.inr.inr.inr => exact .inr ⟨hs, hb, (Response.rejected.inj hr).symm, h⟩
  all_goals cases hr

/-- Every other operation of the command space answers OK or ILLEGAL. -/
theorem eq_rxByte_of_rejected {s t : State} {i : Instr} {rs : List Byte} (hw : i.onWire = false)
    (he : exec i s = .next t) (ht : t.rsps = s.rsps ++ [0x03 :: rs]) : ∃ b, i = .rxByte b ∧ t = s.receive b := by
  obtain ⟨u, hu, heff⟩ := exec_effect i s
  obtain rfl : u = t := Host.Outcome.next.inj (hu.symm.trans he)
  cases heff with
  | feed bs hbs =>
    rcases hbs with hwire | ⟨b, rfl, rfl⟩
    · exact absurd (hw.symm.trans hwire) Bool.false_ne_true
    · exact ⟨b, rfl, rfl⟩
  | illegal => simp [responseBytes] at ht
  | quiet u r _ q => simp [responseBytes, q.rsps] at ht
  | decode p r _ => simp [responseBytes] at ht

theorem exec_rxByte_badLength {s : State} {b : Byte} (hs : s.rxState = .awaitLen) (hb : b.toNat < 2 ∨ 62 < b.toNat) :
    exec (.rxByte b) s = .next (told { s with rxState := .idle } [0x03, 0x01]) :=
  exec_rxByte_of_rxStep ((rxStep_of_awaitLen hs b).trans (if_neg (by omega)))

theorem exec_rxByte_crcMismatch {s : State} {b : Byte} (hs : s.rxState = .awaitCrc) (hb : b ≠ s.rxCrc) :
    exec (.rxByte b) s = .next (told { s with rxState := .idle, rxCnt := 0 } [0x03, 0x02]) :=
  exec_rxByte_of_rxStep (rxStep_of_checksum_ne hs hb)

/-! The statements. -/

/-- Settles O5: what decodes is a row of R76, and an operation is guarded by the enables of R254. -/
theorem illegalCommandsChangeNothing : Obligations.IllegalCommandsChangeNothing :=
  ⟨fun s _ h => runCommand_of_not_accepted h s, fun _ _ => illegal_of_unitAbsent⟩

/-- Settles O10: only RX.BYTE answers with status 0x03, and only in two rows of R122. -/
theorem rejectedIsRaisedExactlyThere : Obligations.RejectedIsRaisedExactlyThere := by
  refine ⟨fun s t i rs hw he ht => ?_, fun _ _ => exec_rxByte_badLength, fun _ _ => exec_rxByte_crcMismatch⟩
  obtain ⟨b, rfl, rfl⟩ := eq_rxByte_of_rejected hw he ht
  rw [receive_rsps, List.append_cancel_left_eq, List.singleton_inj] at ht
  obtain ⟨c, hc, rfl⟩ := eq_rejected_of_responseBytes ht
  refine ⟨b, rfl, ?_⟩
  rcases rxStep_of_rejected hc with ⟨hs, hb, rfl, h⟩ | ⟨hs, hb, rfl, h⟩
  · exact .inl ⟨hs, by omega, rfl, by rw [State.receive, h]; rfl⟩
  · exact .inr ⟨hs, hb, rfl, by rw [State.receive, h]; rfl⟩

end Sys2Proof.Proofs

/-! The state right after reset, register by register and as the host sees it (70_reset R281, R282). -/

namespace Sys2Proof.Proofs

open Sys2Proof.Machine Sys2Proof.Claims

/-! The flight-mode slots: none is configured, so none matches (R281, 44 R227). -/

theorem resetWith_fmSlot (cfg : Config) (i : Fin 8) :
    (State.resetWith cfg).fmSlot[i] = { channel := 0, min := 0xFFFF, max := 0x0000 } :=
  Vector.getElem_replicate i.isLt

/-- The lower end 0xFFFF is above every 11-bit channel value. -/
theorem not_slotMatches_resetWith (cfg : Config) (id : Fin 8) : ¬ SlotMatches (State.resetWith cfg) id := by
  intro ⟨hmin, _⟩
  have hlow : ((State.resetWith cfg).fmSlot[id]).min = 0xFFFF := by rw [resetWith_fmSlot]
  rw [hlow] at hmin
  exact absurd (hmin.trans_lt (BitVec.isLt _)) (by decide)

/-! The frame of each sensor kind (43 R206). -/

/-- The payload of each kind with every staging register at 0. -/
def resetPayload (starWhen : Bool) : Fin 5 → List Byte
  | 0 => [0x00, 0x00, 0x00, 0x00, 0x00, 0x00]
  | 1 => [0x27, 0x10, 0x00, 0x00]
  | 2 => [0x00, 0x00, 0x00, 0x00, 0x00, 0x00, 0x00, 0x00]
  | 3 => [0x00, 0x00, 0x00, 0x00, 0x00, 0x00, 0x00, 0x00, 0x00, 0x00, 0x00, 0x00, 0x03, 0xE8, 0x00]
  | 4 => if starWhen then [0x41, 0x43, 0x52, 0x4F, 0x00] else [0x41, 0x43, 0x52, 0x4F, 0x2A, 0x00]

/-- The last byte of each kind's frame, with the checksum's default parameters. -/
def resetChecksum (starWhen : Bool) : Fin 5 → Byte
  | 0 => 0x30
  | 1 => 0xB3
  | 2 => 0x6D
  | 3 => 0x07
  | 4 => if starWhen then 0x80 else 0x14

theorem kindPayload_resetWith_congr {cfg cfg' : Config} (hstar : cfg.fmStarWhen = cfg'.fmStarWhen) : ∀ k : Fin 5,
    (State.resetWith cfg).kindPayload k = (State.resetWith cfg').kindPayload k
  | 0 => rfl
  | 1 => rfl
  | 2 => rfl
  | 3 => rfl
  | 4 => congrArg (payloadFm · 0 false) hstar

theorem kindPayload_resetWith_default : ∀ (starWhen : Bool) (k : Fin 5),
    (State.resetWith { Params.defaultConfig with fmStarWhen := starWhen }).kindPayload k = resetPayload starWhen k := by
  decide

/-- Of the parameters, the payloads right after reset depend on `FM_STAR_WHEN` only. -/
theorem kindPayload_resetWith (cfg : Config) (k : Fin 5) :
    (State.resetWith cfg).kindPayload k = resetPayload cfg.fmStarWhen k :=
  (kindPayload_resetWith_congr rfl k).trans (kindPayload_resetWith_default cfg.fmStarWhen k)

/-- The checksum by lookups in the reference table (40 R104). -/
def tableCrc (d : List Byte) : Byte := d.foldl (fun c b => crcTable.getD (c ^^^ b).toNat 0) 0x00

theorem crc8_eq_tableCrc {cfg : Config} (hpoly : cfg.crcPoly = 0xD5) (hinit : cfg.crcInit = 0x00) (d : List Byte) :
    crc8 cfg d = tableCrc d := by
  have hstep : crc8Upd 0xD5 = fun c b => crcTable.getD (c ^^^ b).toNat 0 := by
    funext c b
    rw [crcTable_getD, crc8Upd]
  rw [crc8_eq, crc8Run_eq_foldl, hpoly, hinit, hstep, tableCrc]

theorem tableCrc_resetPayload : ∀ (starWhen : Bool) (k : Fin 5),
    tableCrc (kindType k :: resetPayload starWhen k) = resetChecksum starWhen k
  | _, 0 => rfl
  | _, 1 => rfl
  | _, 2 => rfl
  | _, 3 => rfl
  | true, 4 => rfl
  | false, 4 => rfl

theorem kindFrame_resetWith {cfg : Config} (hpoly : cfg.crcPoly = 0xD5) (hinit : cfg.crcInit = 0x00) (k : Fin 5) :
    (State.resetWith cfg).kindFrame k =
      frameBytes (kindType k) (resetPayload cfg.fmStarWhen k) (resetChecksum cfg.fmStarWhen k) := by
  rw [State.kindFrame, buildFrame, kindPayload_resetWith, ← tableCrc_resetPayload]
  exact congrArg (frameBytes _ _) (crc8_eq_tableCrc hpoly hinit _)

theorem kindOn_of_allBuilt {cfg : Config} (h : allBuilt cfg = true) (k : Fin 5) : kindOn cfg k.val = true := by
  simp only [allBuilt, Bool.and_eq_true] at h
  obtain ⟨⟨⟨⟨⟨⟨_, hatt⟩, hbaro⟩, hbat⟩, hgps⟩, hfm⟩, _⟩ := h
  match k with
  | 0 => exact hatt
  | 1 => exact hbaro
  | 2 => exact hbat
  | 3 => exact hgps
  | 4 => exact hfm

theorem units_of_allBuilt {cfg : Config} (h : allBuilt cfg = true) :
    cfg.enRc = true ∧ cfg.enTlm = true ∧ cfg.hasAdj = true := by
  simp only [allBuilt, Bool.and_eq_true] at h
  obtain ⟨⟨⟨⟨⟨⟨⟨⟨hrc, htlm⟩, _⟩, _⟩, _⟩, _⟩, _⟩, _⟩, hadj⟩ := h
  exact ⟨hrc, htlm, hadj⟩

/-! What the operations answer right after reset (R282). -/

theorem exec_rcStat_resetWith {cfg : Config} (h : cfg.enRc = true) :
    exec .rcStat (State.resetWith cfg) = .next (told (State.resetWith cfg) [0x00, 0x00]) := by
  have hflags : statByte (State.resetWith cfg).rcValid (State.resetWith cfg).rcFailsafe = 0x00 :=
    (rfl : statByte false false = 0x00)
  rw [exec_rcStat h, hflags]

theorem exec_rcGet_resetWith {cfg : Config} (h : cfg.enRc = true) (k : Fin 16) :
    exec (.rcGet (BitVec.ofNat 8 k.val)) (State.resetWith cfg) =
      .next (told (State.resetWith cfg) (0x00 :: be 2 (cfg.rcInit[k]).toNat)) := by
  have hindex : (BitVec.ofNat 8 k.val).toNat = k.val := Nat.mod_eq_of_lt (by omega)
  rw [exec_rcGet h, hindex, channel_of_lt _ k.isLt]
  rfl

/-- `tlm_last` is 0, so at time 0 nothing has elapsed and a positive interval is not over. -/
theorem exec_tlmUpdate_resetWith {cfg : Config} (ht : cfg.enTlm = true) (ha : cfg.hasAdj = true)
    (hpos : 0 < cfg.tlmInterval.toNat) :
    exec (.tlmUpdate 0) (State.resetWith cfg) = .next (told (State.resetWith cfg) [0x00, 0x00]) := by
  have hearly : ¬ (cfg.tlmInterval.toNat : Int) ≤ elapsed 0 (State.resetWith cfg).tlmLast :=
    not_le_of_gt (Int.natCast_pos.mpr hpos)
  rw [exec_tlmUpdate]
  exact (finish_of_built (Bool.and_eq_true_iff.mpr ⟨ht, ha⟩) _ _).trans (congrArg _ (if_neg hearly))

theorem exec_tlmSend_resetWith {cfg : Config} (h : allBuilt cfg = true) (hpoly : cfg.crcPoly = 0xD5)
    (hinit : cfg.crcInit = 0x00) (k : Fin 5) :
    exec (.tlmSend (BitVec.ofNat 8 k.val)) (State.resetWith cfg) =
      .next (told (State.resetWith cfg)
        (0x00 :: frameBytes (kindType k) (resetPayload cfg.fmStarWhen k) (resetChecksum cfg.fmStarWhen k))) := by
  obtain ⟨_, htlm, _⟩ := units_of_allBuilt h
  rw [exec_tlmSend_kindFrame k htlm (kindOn_of_allBuilt h k), kindFrame_resetWith hpoly hinit]

/-! The statements. -/

/-- Settles O11: `State.resetWith` writes the table's values, the same entry into all eight slots. -/
theorem resetValues : Obligations.ResetValues := by
  refine ⟨⟨Params.defaultConfig, rfl⟩, fun cfg => ?_⟩
  refine ⟨rfl, fun _ => rfl, rfl, rfl, rfl, rfl, rfl, rfl, rfl, rfl, rfl, rfl, rfl, rfl, rfl, rfl, rfl, rfl, rfl, rfl,
    rfl, rfl, rfl, rfl, rfl, rfl, fun i => ?_, rfl, rfl⟩
  rw [resetWith_fmSlot]
  exact ⟨rfl, rfl, rfl⟩

/-- Settles O12: each operation's answer from the reset values; of the parameters the frames depend only on
`FM_STAR_WHEN`. -/
theorem resetAsTheHostSeesIt : Obligations.ResetAsTheHostSeesIt := by
  intro cfg h
  obtain ⟨hrc, htlm, hadj⟩ := units_of_allBuilt h
  refine ⟨exec_rcStat_resetWith hrc, exec_rcGet_resetWith hrc, fun b => exec_rxByte_of_rxStep (rxStep_of_idle rfl b),
    exec_fmHandle_of_none hadj (classify_of_none (not_slotMatches_resetWith cfg)),
    exec_tlmUpdate_resetWith htlm hadj, fun hpoly hinit => ?_⟩
  have hsend := exec_tlmSend_resetWith h hpoly hinit
  refine ⟨hsend 0, hsend 1, hsend 2, hsend 3, (hsend 4).trans ?_⟩
  cases cfg.fmStarWhen <;> rfl

end Sys2Proof.Proofs

/-! The decoder and the encoder undo each other (30_encoding R70, R75, R76). -/

namespace Sys2Proof.Proofs

open Sys2Proof.Machine Sys2Proof.Claims

/-! Operands read from a command, written out again. -/

theorem be2_halfAt (cmd : List Byte) (o : Nat) : be2 (halfAt cmd o) = [byteAt cmd o, byteAt cmd (o + 1)] := by
  have high : (halfAt cmd o).extractLsb' 8 8 = byteAt cmd o := BitVec.extractLsb'_append_eq_left
  have low : (halfAt cmd o).extractLsb' 0 8 = byteAt cmd (o + 1) := BitVec.extractLsb'_append_eq_right
  rw [be2, high, low]

theorem be4_eq_be2_append (hi lo : Half) : be4 (hi ++ lo) = be2 hi ++ be2 lo := by
  have b3 : (hi ++ lo).extractLsb' 24 8 = hi.extractLsb' 8 8 := BitVec.extractLsb'_append_eq_of_le (by decide)
  have b2 : (hi ++ lo).extractLsb' 16 8 = hi.extractLsb' 0 8 := BitVec.extractLsb'_append_eq_of_le (by decide)
  have b1 : (hi ++ lo).extractLsb' 8 8 = lo.extractLsb' 8 8 := BitVec.extractLsb'_append_eq_of_add_le (by decide)
  have b0 : (hi ++ lo).extractLsb' 0 8 = lo.extractLsb' 0 8 := BitVec.extractLsb'_append_eq_of_add_le (by decide)
  rw [be4, b3, b2, b1, b0]
  rfl

theorem be4_wordAt (cmd : List Byte) (o : Nat) :
    be4 (wordAt cmd o) = [byteAt cmd o, byteAt cmd (o + 1), byteAt cmd (o + 2), byteAt cmd (o + 3)] := by
  rw [wordAt, be4_eq_be2_append, be2_halfAt, be2_halfAt]
  rfl

/-- Halves that stand side by side give their bytes back in order. -/
theorem be2s_map_halfAt (cmd : List Byte) (o n : Nat) :
    be2s ((List.range n).map fun k => halfAt cmd (o + 2 * k)) =
      (List.range (2 * n)).map fun k => byteAt cmd (o + k) := by
  induction n with
  | zero => rfl
  | succ n ih =>
    rw [be2s_eq_flatMap] at ih ⊢
    rw [List.range_succ, List.map_append, List.flatMap_append, ih, Nat.mul_succ, List.range_succ, List.range_succ]
    simp [be_two_toNat, be2_halfAt, Nat.add_assoc]

/-- A command of `n + 1` bytes is its code and the bytes at the offsets 1 to `n`. -/
theorem code_cons_map_byteAt {cmd : List Byte} {c : Byte} {n : Nat} (hcode : cmd.head? = some c)
    (hlen : cmd.length = n + 1) : c :: (List.range n).map (fun k => byteAt cmd (1 + k)) = cmd := by
  obtain ⟨rest, rfl⟩ := List.head?_eq_some_iff.mp hcode
  obtain rfl : rest.length = n := Nat.succ.inj hlen
  have htail : (fun k => byteAt (c :: rest) (1 + k)) = byteAt rest := by
    funext k
    rw [Nat.add_comm, byteAt_cons_succ]
  rw [htail, map_byteAt_range]

/-- A block that reaches from offset 1 to the command's end. -/
theorem code_cons_bytesAt {cmd : List Byte} {c : Byte} {n : Nat} (hcode : cmd.head? = some c)
    (hlen : cmd.length = n + 1) : c :: bytesAt cmd 1 n = cmd := by
  obtain ⟨rest, rfl⟩ := List.head?_eq_some_iff.mp hcode
  obtain rfl : rest.length = n := Nat.succ.inj hlen
  rw [bytesAt, List.drop_one, List.tail_cons, List.take_length]

/-- A byte string is its bytes but the last, and its last. -/
theorem take_append_byteAt {bytes : List Byte} {n : Nat} (h : bytes.length = n + 1) :
    bytes.take n ++ [byteAt bytes n] = bytes := by
  have hlast : byteAt bytes n = bytes[n] := (List.getElem_eq_getD 0).symm
  rw [hlast, List.take_append_getElem, ← h, List.take_length]

/-- A command whose format has a count byte begins with its code and that byte. -/
theorem eq_code_cons_count_cons {cmd : List Byte} {c : Byte} (hcode : cmd.head? = some c) (hlen : 2 ≤ cmd.length) :
    ∃ d, cmd = c :: byteAt cmd 1 :: d := by
  match cmd, hlen with
  | _ :: n :: d, _ => exact ⟨d, by rw [Option.some.inj hcode]; rfl⟩

theorem length_bytesAt {cmd : List Byte} {o n : Nat} (h : o + n ≤ cmd.length) : (bytesAt cmd o n).length = n := by
  rw [bytesAt, List.length_take, List.length_drop, Nat.min_eq_left (by omega)]

theorem encode_operandsOf_crcBlk {cmd : List Byte} (hcode : cmd.head? = some 0x11)
    (hlen : cmd.length = 2 + (byteAt cmd 1).toNat) : encode (operandsOf .crcBlk cmd) = cmd := by
  obtain ⟨d, hd⟩ := eq_code_cons_count_cons hcode (by omega)
  generalize byteAt cmd 1 = n at hd hlen
  subst hd
  have hn : d.length = n.toNat := by
    simp only [List.length_cons] at hlen
    omega
  have hencode : encode (operandsOf .crcBlk (0x11 :: n :: d)) =
      0x11 :: BitVec.ofNat 8 (d.take n.toNat).length :: d.take n.toNat := rfl
  rw [hencode, ← hn, List.take_length, hn, BitVec.ofNat_toNat, BitVec.setWidth_eq]

theorem encode_operandsOf_crcChk {cmd : List Byte} (hcode : cmd.head? = some 0x12)
    (hlen : cmd.length = 3 + (byteAt cmd 1).toNat) : encode (operandsOf .crcChk cmd) = cmd := by
  obtain ⟨d, hd⟩ := eq_code_cons_count_cons hcode (by omega)
  generalize byteAt cmd 1 = n at hd hlen
  subst hd
  have hn : d.length = n.toNat + 1 := by
    simp only [List.length_cons] at hlen
    omega
  have hlast : byteAt (0x12 :: n :: d) (2 + n.toNat) = byteAt d n.toNat := by
    rw [Nat.add_comm, byteAt_cons_succ, byteAt_cons_succ]
  have hencode : encode (operandsOf .crcChk (0x12 :: n :: d)) =
      0x12 :: BitVec.ofNat 8 (d.take n.toNat).length ::
        (d.take n.toNat ++ [byteAt (0x12 :: n :: d) (2 + n.toNat)]) := rfl
  rw [hencode, hlast, take_append_byteAt hn, List.length_take, hn, Nat.min_eq_left (Nat.le_succ _), BitVec.ofNat_toNat,
    BitVec.setWidth_eq]

/-- The operands of a command, written out at the offsets they were read at, are the command. -/
theorem encode_operandsOf {o : Opcode} {cmd : List Byte} (hcode : cmd.head? = some o.code)
    (hlen : cmd.length = o.format.commandLength cmd) : encode (operandsOf o cmd) = cmd := by
  cases o
  case crcBlk => exact encode_operandsOf_crcBlk hcode hlen
  case crcChk => exact encode_operandsOf_crcChk hcode hlen
  case rcDec | lsDec => exact code_cons_bytesAt hcode hlen
  case rcEnc =>
    have hbytes := be2s_map_halfAt cmd 1 16
    exact (congrArg (0x31 :: ·) hbytes).trans (code_cons_map_byteAt hcode hlen)
  all_goals
    simp only [operandsOf, encode, be2_halfAt, be4_wordAt]
    exact code_cons_map_byteAt hcode hlen

theorem wf_operandsOf {o : Opcode} {cmd : List Byte} (hlen : cmd.length = o.format.commandLength cmd) :
    (operandsOf o cmd).wf = true := by
  cases o
  case crcBlk | crcChk =>
    exact decide_eq_true ((List.length_take_le _ _).trans (Nat.le_of_lt_succ (byteAt cmd 1).isLt))
  case rcDec | lsDec => exact beq_iff_eq.mpr (length_bytesAt hlen.ge)
  all_goals rfl

theorem onWire_operandsOf (o : Opcode) (cmd : List Byte) : (operandsOf o cmd).onWire = false := by
  cases o <;> rfl

/-! Frames (R70, R71). -/

theorem decodeFrame_frameBytes (t : Byte) {p : List Byte} (hp : p.length ≤ 60) (k : Byte) :
    decodeFrame (frameBytes t p k) = .ok (frameInstr t p k) := by
  have hlen : (BitVec.ofNat 8 (p.length + 2)).toNat = p.length + 2 := Nat.mod_eq_of_lt (by omega)
  have hlast : byteAt (p ++ [k]) p.length = k := by simp [byteAt]
  have hsize : (p ++ [k]).length = p.length + 2 - 1 := List.length_append
  have hlegal : ¬ (p.length + 2 < Params.minLen ∨ Params.maxLen < p.length + 2) := by
    rw [Params.minLen, Params.maxLen, Params.maxPayload]
    omega
  have hframe : frameBytes t p k = Params.sync :: BitVec.ofNat 8 (p.length + 2) :: t :: (p ++ [k]) := rfl
  rw [hframe, decodeFrame, if_neg (not_not.mpr rfl), hlen, if_neg hlegal, if_neg (not_not.mpr hsize),
    Nat.add_sub_cancel, List.take_left, hlast]

/-- What decodes as a frame is the frame of a type, a payload and a last byte. -/
theorem decodeFrame_eq_ok {bytes : List Byte} {i : Instr} (h : decodeFrame bytes = .ok i) :
    ∃ t p k, p.length ≤ 60 ∧ bytes = frameBytes t p k ∧ i = frameInstr t p k := by
  match bytes, h with
  | b :: len :: t :: rest, h =>
    rw [decodeFrame] at h
    split_ifs at h with hsync hlen hsize
    simp only [Params.minLen, Params.maxLen, Params.maxPayload] at hlen
    have hrest : rest.length = (len.toNat - 2) + 1 := by omega
    have htake : (rest.take (len.toNat - 2)).length = len.toNat - 2 := by
      rw [List.length_take]
      omega
    refine ⟨t, rest.take (len.toNat - 2), byteAt rest (len.toNat - 2), by omega, ?_, (Except.ok.inj h).symm⟩
    have hcount : BitVec.ofNat 8 ((rest.take (len.toNat - 2)).length + 2) = len := by
      rw [htake, Nat.sub_add_cancel (by omega), BitVec.ofNat_toNat, BitVec.setWidth_eq]
    rw [frameBytes, hcount, List.append_assoc, take_append_byteAt hrest, Decidable.not_not.mp hsync]
    rfl

theorem frameInstr_of_not_mem {t : Byte} (h : t ∉ Params.namedTypes) (p : List Byte) (k : Byte) :
    frameInstr t p k = .frameOther t p k := by
  simp only [Params.namedTypes, List.mem_cons, List.not_mem_nil, or_false, not_or] at h
  simp [frameInstr, h]

/-- The rows of R72 are what the type byte selects. -/
theorem frameRow_iff {i : Instr} {t : Byte} {p : List Byte} {k : Byte} :
    FrameRow i t p k ↔ i = frameInstr t p k := by
  constructor
  · rintro (⟨rfl, rfl⟩ | ⟨rfl, rfl⟩ | ⟨rfl, rfl⟩ | ⟨rfl, rfl⟩ | ⟨rfl, rfl⟩ | ⟨rfl, rfl⟩ | ⟨rfl, rfl⟩ |
      ⟨ht, rfl⟩)
    case inr.inr.inr.inr.inr.inr.inr => exact (frameInstr_of_not_mem ht p k).symm
    all_goals rfl
  · rintro rfl
    unfold frameInstr FrameRow
    split_ifs <;> simp_all [Params.tRc, Params.tLs, Params.tGps, Params.tBat, Params.tBaro, Params.tAtt, Params.tFm]

theorem encode_frameInstr (t : Byte) (p : List Byte) (k : Byte) : encode (frameInstr t p k) = frameBytes t p k := by
  unfold frameInstr
  split_ifs <;> subst_vars <;> rfl

theorem onWire_frameInstr (t : Byte) (p : List Byte) (k : Byte) : (frameInstr t p k).onWire = true := by
  unfold frameInstr
  split_ifs <;> rfl

theorem wf_frameInstr (t : Byte) {p : List Byte} (hp : p.length ≤ 60) (k : Byte) : (frameInstr t p k).wf = true := by
  have hfits : payloadFits p = true := decide_eq_true hp
  unfold frameInstr
  split_ifs
  case neg => simp [Instr.wf, Params.namedTypes, *]
  all_goals exact hfits

/-- Every well-formed row of the wire space is selected by a type byte, with a payload that fits. -/
theorem exists_frameInstr {i : Instr} (hw : i.onWire = true) (hwf : i.wf = true) :
    ∃ t p k, p.length ≤ 60 ∧ i = frameInstr t p k := by
  cases i
  case frameRcChannelsPacked p k => exact ⟨Params.tRc, p, k, of_decide_eq_true hwf, rfl⟩
  case frameLinkStatistics p k => exact ⟨Params.tLs, p, k, of_decide_eq_true hwf, rfl⟩
  case frameGps p k => exact ⟨Params.tGps, p, k, of_decide_eq_true hwf, rfl⟩
  case frameBattery p k => exact ⟨Params.tBat, p, k, of_decide_eq_true hwf, rfl⟩
  case frameBaroAlt p k => exact ⟨Params.tBaro, p, k, of_decide_eq_true hwf, rfl⟩
  case frameAttitude p k => exact ⟨Params.tAtt, p, k, of_decide_eq_true hwf, rfl⟩
  case frameFlightMode p k => exact ⟨Params.tFm, p, k, of_decide_eq_true hwf, rfl⟩
  case frameOther t p k =>
    obtain ⟨hp, ht⟩ := Bool.and_eq_true_iff.mp hwf
    exact ⟨t, p, k, of_decide_eq_true hp, (frameInstr_of_not_mem (by simpa using ht) p k).symm⟩
  all_goals cases hw

/-! Commands. -/

/-- Each well-formed operation of the command space is decoded from its own bytes. -/
theorem decode_encode {i : Instr} (hw : i.onWire = false) (hwf : i.wf = true) : decode (encode i) = .ok i := by
  cases i
  case crcBlk d => exact decode_crcBlk (of_decide_eq_true hwf)
  case crcChk d e => exact decode_crcChk (of_decide_eq_true hwf) e
  case rcDec p => exact (encoded_rcDec (eq_of_beq hwf)).1
  case rcEnc c => exact (encoded_rcEnc (eq_of_beq hwf)).1
  case lsDec p => exact (encoded_lsDec (eq_of_beq hwf)).1
  case rcTous raw =>
    have h := encoded_half (o := .rcTous) rfl (fun _ => rfl) raw
    rw [be_two_toNat] at h
    exact h.1
  case rcToraw us =>
    have h := encoded_half (o := .rcToraw) rfl (fun _ => rfl) us
    rw [be_two_toNat] at h
    exact h.1
  case tlmSetatt roll pitch yaw => exact (encoded_tlmSetatt roll pitch yaw).1
  case tlmSetbaro alt vario => exact (encoded_tlmSetbaro alt vario).1
  case tlmSetbat voltage current fuel percent => exact (encoded_tlmSetbat voltage current fuel percent).1
  case tlmSetgps lat lon alt speed course sats => exact (encoded_tlmSetgps lat lon alt speed course sats).1
  case fmSet id channel min max => exact (encoded_fmSet id channel min max).1
  case tlmUpdate now => exact (encoded_tlmUpdate now).1
  case crcUpd | rxByte | rxRst | rcGet | rcStat | tlmSetfm | tlmSend | fmHandle | tlmSendnext => rfl
  all_goals cases hw

/-! The input an instruction is presented as: a command or a burst of stream bytes. -/

theorem encodeInput_of_not_onWire {i : Instr} (h : i.onWire = false) : encodeInput i = .command (encode i) := by
  rw [encodeInput, h, if_neg Bool.false_ne_true]

theorem encodeInput_frameInstr (t : Byte) (p : List Byte) (k : Byte) :
    encodeInput (frameInstr t p k) = .stream (frameBytes t p k) := by
  rw [encodeInput, if_pos (onWire_frameInstr t p k), encode_frameInstr]

/-! The statements. -/

/-- Settles O1: each word has its operation's code and length, and its operands are read out of it. -/
theorem commandWordsDecode : Obligations.CommandWordsDecode := by
  unfold Obligations.CommandWordsDecode
  decide

/-- Settles O2: a command's operands are read where they were written, and a frame's type selects its row. -/
theorem decodeOfEncodeIsTheInstruction : Obligations.DecodeOfEncodeIsTheInstruction := by
  intro i hwf
  cases hw : i.onWire with
  | false =>
    rw [encodeInput_of_not_onWire hw]
    exact decode_encode hw hwf
  | true =>
    obtain ⟨t, p, k, hp, rfl⟩ := exists_frameInstr hw hwf
    rw [encodeInput_frameInstr]
    exact decodeFrame_frameBytes t hp k

/-- Settles O3: a command is its code and its operands at their offsets, a frame its type, payload and last byte. -/
theorem encodeOfDecodeIsTheInput : Obligations.EncodeOfDecodeIsTheInput := by
  intro x i h
  cases x with
  | command cmd =>
    obtain ⟨o, hcode, hlen, rfl⟩ := decode_eq_ok h
    rw [encodeInput_of_not_onWire (onWire_operandsOf o cmd), encode_operandsOf hcode hlen]
    exact ⟨wf_operandsOf hlen, rfl⟩
  | stream bytes =>
    obtain ⟨t, p, k, hp, rfl, rfl⟩ := decodeFrame_eq_ok h
    exact ⟨wf_frameInstr t hp k, encodeInput_frameInstr t p k⟩
  | reset => cases h

/-- Settles O4: the rows of R76 are the decoder's operations, and a code and its length are all it asks for. -/
theorem commandDecodesExactlyWhenARowAcceptsIt : Obligations.CommandDecodesExactlyWhenARowAcceptsIt := by
  intro cmd
  constructor
  · rintro ⟨i, h⟩
    exact accepted_of_decode h
  · rintro ⟨row, hrow, hcode, hlen⟩
    rw [commandRows_eq] at hrow
    obtain ⟨o, -, rfl⟩ := List.mem_map.mp hrow
    obtain ⟨rest, rfl⟩ := List.head?_eq_some_iff.mp hcode
    exact ⟨_, decode_eq_operandsOf hlen⟩

end Sys2Proof.Proofs

/-! What a flipped bit does to the checksum (40_checksum R108). -/

namespace Sys2Proof.Proofs

open Sys2Proof.Machine Sys2Proof.Claims

theorem crc8Upd_xor (poly c1 c2 b1 b2 : Byte) :
    crc8Upd poly (c1 ^^^ c2) (b1 ^^^ b2) = crc8Upd poly c1 b1 ^^^ crc8Upd poly c2 b2 := by
  have hswap : c1 ^^^ c2 ^^^ (b1 ^^^ b2) = (c1 ^^^ b1) ^^^ (c2 ^^^ b2) := by ac_rfl
  rw [crc8Upd, crc8Upd, crc8Upd, hswap, crcShifts_xor]

theorem xor_twoPow_ne (b : Byte) {bit : Nat} (hbit : bit < 8) : b ^^^ BitVec.twoPow 8 bit ≠ b := by
  intro h
  have hbits := congrArg (·.getLsbD bit) h
  simp [hbit] at hbits

/-- The step loses no bit: what it shifts differs as the exclusive-or of register and byte does. -/
theorem crc8Upd_eq_iff {poly : Byte} (hp : poly.getLsbD 0 = true) (c1 c2 b1 b2 : Byte) :
    crc8Upd poly c1 b1 = crc8Upd poly c2 b2 ↔ c1 ^^^ c2 = b1 ^^^ b2 :=
  calc crc8Upd poly c1 b1 = crc8Upd poly c2 b2
      ↔ crc8Upd poly (c1 ^^^ c2) (b1 ^^^ b2) = 0 := by rw [crc8Upd_xor]; exact BitVec.xor_eq_zero_iff.symm
    _ ↔ c1 ^^^ c2 = b1 ^^^ b2 := crc8Upd_eq_zero_iff hp _ _

/-- Different registers stay different over the same bytes. -/
theorem crc8Run_injective {poly : Byte} (hp : poly.getLsbD 0 = true) (d : List Byte) :
    Function.Injective fun c => crc8Run poly c d := by
  induction d with
  | nil => exact fun _ _ h => h
  | cons b d ih =>
    intro c1 c2 h
    have hstep := (crc8Upd_eq_iff hp c1 c2 b b).mp (ih h)
    rwa [BitVec.xor_self, BitVec.xor_eq_zero_iff] at hstep

theorem crc8Run_flipBit_ne {poly : Byte} (hp : poly.getLsbD 0 = true) (c : Byte) (d : List Byte) {pos bit : Nat}
    (hpos : pos < d.length) (hbit : bit < 8) : crc8Run poly c (flipBit d pos bit) ≠ crc8Run poly c d := by
  induction d generalizing c pos with
  | nil => exact absurd hpos (Nat.not_lt_zero _)
  | cons b d ih =>
    cases pos with
    | zero =>
      intro h
      have hstep := (crc8Upd_eq_iff hp c c (b ^^^ BitVec.twoPow 8 bit) b).mp (crc8Run_injective hp d h)
      rw [BitVec.xor_self, eq_comm, BitVec.xor_eq_zero_iff] at hstep
      exact xor_twoPow_ne b hbit hstep
    | succ pos => exact ih (crc8Upd poly c b) (Nat.lt_of_succ_lt_succ hpos)

/-! The statements. -/

/-- Settles O19: the eight shifts are linear in the register, and the byte enters by exclusive-or. -/
theorem crcStepIsLinear : Obligations.CrcStepIsLinear := crc8Upd_xor

/-- Settles O20: the registers differ behind the flipped byte and stay different over the rest. -/
theorem singleBitErrorChangesTheChecksum : Obligations.SingleBitErrorChangesTheChecksum := by
  intro cfg d pos bit hp hpos hbit
  rw [crc8_eq, crc8_eq]
  exact crc8Run_flipBit_ne hp cfg.crcInit d hpos hbit

end Sys2Proof.Proofs

/-! What every operation and every step keeps (00_scope R13, R15; 10_state R22 to R27; 70_reset R280, R292). -/

namespace Sys2Proof.Proofs

open Sys2Proof.Machine Sys2Proof.Claims

/-! A property of the state that operations keep, packaged once for every step. -/

theorem quiet_refl (s : State) : Quiet s s :=
  ⟨rfl, rfl, rfl, rfl, rfl, rfl, rfl, .inl ⟨rfl, rfl, rfl, rfl, rfl, rfl⟩⟩

theorem feed_induction {P : State → Prop} (h : ∀ s b, P s → P (s.receive b)) (bytes : List Byte) {s : State}
    (hs : P s) : P (s.feed bytes) := by
  induction bytes generalizing s with
  | nil => exact hs
  | cons b bytes ih => exact ih (h s b hs)

/-- A property that each of the effects of an operation keeps, and that does not speak of the host's inputs. -/
structure KeptByEffects (P : State → Prop) : Prop where
  quiet : ∀ s u r, Quiet s u → P s → P (u.answer r)
  decode : ∀ s ch r, P s → P ((s.loadChannels ch).answer r)
  receive : ∀ s b, P s → P (s.receive b)
  inbox : ∀ s rest, P s → P { s with inbox := rest }

theorem exec_keeps {P : State → Prop} (h : KeptByEffects P) (i : Instr) {s : State} (hs : P s) :
    ∃ t, exec i s = .next t ∧ P t := by
  obtain ⟨t, ht, heff⟩ := exec_effect i s
  refine ⟨t, ht, ?_⟩
  cases heff with
  | illegal => exact h.quiet s s _ (quiet_refl s) hs
  | quiet u r _ q => exact h.quiet s u _ q hs
  | decode p r _ => exact h.decode s _ _ hs
  | feed bs _ => exact feed_induction h.receive bs hs

theorem runInput_keeps {P : State → Prop} (h : KeptByEffects P) {x : Input} (hx : x ≠ .reset) {s : State}
    (hs : P s) : ∃ t, runInput x s = .next t ∧ P t := by
  cases x with
  | command cmd =>
    rw [runInput, runCommand]
    cases decode cmd with
    | ok i => exact exec_keeps h i hs
    | error e => exact ⟨_, rfl, h.quiet s s _ (quiet_refl s) hs⟩
  | stream bytes =>
    rw [runInput, runStream]
    cases decodeFrame bytes with
    | ok i => exact exec_keeps h i hs
    | error e => exact ⟨_, rfl, feed_induction h.receive bytes hs⟩
  | reset => exact absurd rfl hx

/-- A step answers a next state and keeps the property, if a re-initialisation that stands next keeps it. -/
theorem step_keeps {P : State → Prop} (h : KeptByEffects P) {s : State} (hs : P s)
    (hreset : s.inbox.head? = some .reset → ∀ rest, P { s with inbox := rest }.reinit) :
    ∃ t, step s = .next t ∧ P t := by
  rw [step_eq]
  cases hin : s.inbox with
  | nil => exact ⟨s, rfl, hs⟩
  | cons x rest =>
    by_cases hx : x = .reset
    · subst hx
      exact ⟨_, rfl, hreset (by rw [hin]; rfl) rest⟩
    · exact runInput_keeps h hx (h.inbox s rest hs)

/-! The parameters, the invariant and `rc_valid` are kept. -/

theorem cfg_kept (cfg : Config) : KeptByEffects fun s => s.cfg = cfg where
  quiet _ _ _ q h := q.cfg.trans h
  decode _ _ _ h := h
  receive s b h := (receive_cfg s b).trans h
  inbox _ _ h := h

/-- One RX.BYTE leaves the channel registers, the flags and the draws, or decodes and answers COMPLETE with `EV_RC`. -/
theorem receive_channels (s : State) (b : Byte) :
    ((s.receive b).rcCh = s.rcCh ∧ (s.receive b).rcValid = s.rcValid ∧ (s.receive b).rcFailsafe = s.rcFailsafe ∧
        (s.receive b).draws = s.draws) ∨
      ((s.receive b).rcValid = true ∧ (s.receive b).draws = s.draws + 1 ∧
        ∃ rs, (s.receive b).rsps = s.rsps ++ [0x02 :: 0x01 :: rs]) := by
  rw [receive_rsps, State.receive]
  rcases rxStep_cases b s with
    ⟨_, h⟩ | ⟨_, _, _, h⟩ | ⟨_, _, h⟩ | ⟨_, h⟩ | ⟨_, h⟩ | ⟨_, _, h⟩ | ⟨_, _, h⟩ <;> rw [h]
  case inr.inr.inr.inr.inr.inl =>
    rcases routeFrame_cases (receivedFrame b s) s with ⟨hrc, hroute⟩ | ⟨_, hroute⟩ <;> rw [hroute]
    · rw [routeEvents_of_toRcu ((routesRc_iff _ _).mp hrc)]
      exact .inr ⟨rfl, rfl, _, rfl⟩
    · exact .inl ⟨rfl, rfl, rfl, rfl⟩
  all_goals exact .inl ⟨rfl, rfl, rfl, rfl⟩

theorem rcInv_congr {s t : State} (hcfg : t.cfg = s.cfg) (hch : t.rcCh = s.rcCh) (hvalid : t.rcValid = s.rcValid)
    (hfs : t.rcFailsafe = s.rcFailsafe) (h : s.RcInv) : t.RcInv := by
  rw [State.RcInv, hcfg, hch, hvalid, hfs]
  exact h

theorem rcInv_of_rcValid {s : State} (h : s.rcValid = true) : s.RcInv :=
  fun hoff => absurd (h.symm.trans hoff) (by decide)

theorem rcInv_kept : KeptByEffects State.RcInv where
  quiet _ _ _ q h := rcInv_congr q.cfg q.rcCh q.rcValid q.rcFailsafe h
  decode _ _ _ _ := rcInv_of_rcValid rfl
  receive s b h := by
    rcases receive_channels s b with ⟨hch, hvalid, hfs, -⟩ | ⟨hvalid, -⟩
    · exact rcInv_congr (receive_cfg s b) hch hvalid hfs h
    · exact rcInv_of_rcValid hvalid
  inbox _ _ h := h

theorem rxInv_of_quiet {s u : State} (q : Quiet s u) (h : s.RxInv) : u.RxInv := by
  rcases q.rx with ⟨hstate, hlen, htype, hcnt, hcrc, hbuf⟩ | ⟨hidle, hcnt⟩
  · exact rxInv_congr q.cfg hstate hlen htype hcnt hcrc hbuf h
  · rw [State.RxInv, hidle]
    exact hcnt

theorem rxInv_kept : KeptByEffects State.RxInv where
  quiet _ u _ q h := show u.RxInv from rxInv_of_quiet q h
  decode _ _ _ h := h
  receive s b h := receive_rxInv s b h
  inbox _ _ h := h

theorem inv_kept : KeptByEffects State.Inv where
  quiet s u r q h := ⟨rxInv_kept.quiet s u r q h.1, rcInv_kept.quiet s u r q h.2⟩
  decode s ch r h := ⟨rxInv_kept.decode s ch r h.1, rcInv_kept.decode s ch r h.2⟩
  receive s b h := ⟨rxInv_kept.receive s b h.1, rcInv_kept.receive s b h.2⟩
  inbox _ _ h := h

theorem rcValid_kept : KeptByEffects fun s => s.rcValid = true where
  quiet _ _ _ q h := q.rcValid.trans h
  decode _ _ _ _ := rfl
  receive s b h := by
    rcases receive_channels s b with ⟨-, hvalid, -⟩ | ⟨hvalid, -⟩
    · exact hvalid.trans h
    · exact hvalid
  inbox _ _ h := h

/-! The other units' registers (00 R15). -/

theorem sameOutside_receive {s t : State} (h : SameOutside s t) (b : Byte) : SameOutside s (t.receive b) := by
  obtain ⟨_, _, _, _, _, _, hr | hr⟩ := rxStep_frame b t <;> (rw [State.receive, hr]; exact h)

theorem sameOutside_refl (s : State) : SameOutside s s := by
  simp [SameOutside]

theorem sameOutside_feed (s : State) (bytes : List Byte) : SameOutside s (s.feed bytes) :=
  feed_induction (P := SameOutside s) (fun _ b h => sameOutside_receive h b) bytes (sameOutside_refl s)

/-- A frame row is bytes to the receiver. -/
theorem exists_feed_of_onWire {i : Instr} (hw : i.onWire = true) (s : State) :
    ∃ bytes, exec i s = .next (s.feed bytes) := by
  cases i
  case frameRcChannelsPacked | frameLinkStatistics | frameGps | frameBattery | frameBaroAlt | frameAttitude |
      frameFlightMode | frameOther => exact ⟨_, rfl⟩
  all_goals cases hw

/-! The response of an operation (30_encoding R77, R79). -/

/-- An operation other than RX.BYTE answers OK when its unit and its sensor kind are built, and else ILLEGAL. -/
theorem exec_eq_finish (s : State) {i : Instr} (hw : i.onWire = false) (hb : ∀ b, i ≠ .rxByte b) :
    ∃ (u : State) (r : List Byte), u.rsps = s.rsps ∧ u.inbox = s.inbox ∧
      exec i s = finish (!unitAbsent s.cfg i) s (u.answer (.ok r)) := by
  cases i
  case rxByte b => exact absurd rfl (hb b)
  case crcUpd | crcBlk | crcChk | rxRst => refine ⟨_, _, ?_, ?_, rfl⟩ <;> rfl
  case rcDec | rcEnc | rcTous | rcToraw | rcGet | rcStat | fmHandle =>
    rw [unitAbsent, Bool.not_not]
    refine ⟨_, _, ?_, ?_, rfl⟩ <;> rfl
  case tlmSetatt | tlmSetbaro | tlmSetbat | tlmSetgps | lsDec =>
    rw [unitAbsent, Bool.not_or, Bool.not_not, Bool.not_not]
    refine ⟨_, _, ?_, ?_, rfl⟩ <;> rfl
  case tlmSetfm id armed =>
    rw [unitAbsent, Bool.not_or, Bool.not_not, Bool.not_not, exec, execTlmSetfm]
    cases fmIdOf id <;> (refine ⟨_, _, ?_, ?_, rfl⟩ <;> rfl)
  case fmSet id channel min max =>
    rw [unitAbsent, Bool.not_not, exec, execFmSet]
    cases fmIdOf id <;> cases channelOf channel <;> (refine ⟨_, _, ?_, ?_, rfl⟩ <;> rfl)
  case tlmUpdate now =>
    rw [unitAbsent, Bool.not_or, Bool.not_not, Bool.not_not, Bool.and_comm, exec, execTlmUpdate]
    split <;> (refine ⟨_, _, ?_, ?_, rfl⟩ <;> rfl)
  case tlmSendnext =>
    rw [unitAbsent, Bool.not_or, Bool.not_not, Bool.not_not, Bool.and_comm, exec, execTlmSendnext]
    split <;> (refine ⟨_, _, ?_, ?_, rfl⟩ <;> rfl)
  case tlmSend kind =>
    by_cases hk : kind.toNat < 5
    · have hguard : (!unitAbsent s.cfg (.tlmSend kind)) = (s.cfg.enTlm && kindOn s.cfg kind.toNat) := by
        simp [unitAbsent, hk]
      rw [hguard, exec_tlmSend_of_lt hk]
      refine ⟨s, _, rfl, rfl, rfl⟩
    · have hguard : (!unitAbsent s.cfg (.tlmSend kind)) = s.cfg.enTlm := by
        simp [unitAbsent, hk]
      rw [hguard, exec_tlmSend_of_ge (Nat.le_of_not_lt hk)]
      exact ⟨s, [], rfl, rfl, rfl⟩
  all_goals cases hw

/-- An operation that only answers changes the response list alone, built or not. -/
theorem finish_answer (built : Bool) (s : State) (r : Response) :
    ∃ bytes, finish built s (s.answer r) = .next (told s bytes) := by
  cases built <;> exact ⟨_, rfl⟩

theorem receive_status (s : State) (b : Byte) : ∃ (status : Byte) (result : List Byte),
    (s.receive b).rsps = s.rsps ++ [status :: result] ∧ (status = 0x01 ∨ status = 0x02 ∨ status = 0x03) := by
  rw [receive_rsps]
  rcases rxStep_cases b s with
    ⟨_, h⟩ | ⟨_, _, _, h⟩ | ⟨_, _, h⟩ | ⟨_, h⟩ | ⟨_, h⟩ | ⟨_, _, h⟩ | ⟨_, _, h⟩ <;> rw [h]
  case inr.inr.inr.inr.inr.inl => exact ⟨0x02, _, rfl, by decide⟩
  case inr.inr.inl | inr.inr.inr.inr.inr.inr => exact ⟨0x03, _, rfl, by decide⟩
  all_goals exact ⟨0x01, _, rfl, by decide⟩

/-! TLM.UPDATE again and again (44 R231). -/

theorem exec_tlmUpdate_of_built {s : State} (ht : s.cfg.enTlm = true) (ha : s.cfg.hasAdj = true) (now : Word) :
    exec (.tlmUpdate now) s = .next
      (if (s.cfg.tlmInterval.toNat : Int) ≤ elapsed now s.tlmLast then told { s with tlmLast := now } [0x00, 0x01]
       else told s [0x00, 0x00]) :=
  (exec_tlmUpdate s now).trans (finish_of_built (Bool.and_eq_true_iff.mpr ⟨ht, ha⟩) _ _)

theorem runAll_cons {i : Instr} {s t : State} (h : exec i s = .next t) (is : List Instr) :
    runAll (i :: is) s = runAll is t := by
  rw [runAll, h]

/-! The statements. -/

/-- Settles O6: the step takes the input off the inbox and runs what it decodes to. -/
theorem stepRunsTheDecodedInstruction : Obligations.StepRunsTheDecodedInstruction := by
  intro s x rest i hin h
  rw [step_eq, hin]
  cases x with
  | command cmd =>
    rw [decodeInput] at h
    simp only [runInput, runCommand, h]
  | stream bytes =>
    rw [decodeInput] at h
    simp only [runInput, runStream, h]
  | reset => cases h

/-- Settles O7: the other branches of the fetch, each as the input's kind decides. -/
theorem stepOnOtherInputs : Obligations.StepOnOtherInputs := by
  refine ⟨fun s cmd rest hin => ?_, fun s bytes rest hin hbad => ?_, fun s hin => ?_, fun s rest hin => ?_⟩ <;>
    rw [step_eq, hin]
  · rfl
  · refine ⟨_, rxFeed_eq_feed bytes _, ?_⟩
    cases hd : decodeFrame bytes with
    | ok i => exact absurd hd (hbad i)
    | error e => simp only [runInput, runStream, hd]
  · rfl

/-- Settles O8: no effect of an operation and no re-initialisation writes the parameters. -/
theorem everyStepAnswersAndKeepsTheParameters : Obligations.EveryStepAnswersAndKeepsTheParameters :=
  fun s => step_keeps (cfg_kept s.cfg) rfl fun _ _ => rfl

/-- Settles O9: RX.BYTE has its three statuses, and every other operation is guarded by its unit. -/
theorem oneResponsePerOperation : Obligations.OneResponsePerOperation := by
  intro s i hw
  by_cases hb : ∃ b, i = .rxByte b
  · obtain ⟨b, rfl⟩ := hb
    obtain ⟨status, result, hrsps, hstatus⟩ := receive_status s b
    exact ⟨s.receive b, status, result, rfl, hrsps, receive_inbox s b, fun _ => hstatus, fun h => absurd rfl (h b)⟩
  · obtain ⟨u, r, hrsps, hinbox, hexec⟩ := exec_eq_finish s hw fun b h => hb ⟨b, h⟩
    rw [hexec]
    cases unitAbsent s.cfg i with
    | true => exact ⟨_, 0xFF, [], rfl, rfl, rfl, fun h => absurd h hb, fun _ => rfl⟩
    | false =>
      exact ⟨_, 0x00, r, rfl, congrArg (· ++ [0x00 :: r]) hrsps, hinbox, fun h => absurd h hb, fun _ => rfl⟩

/-- Settles O13: the receiver is in `IDLE` with `rx_cnt` 0, and the channel registers hold `RC_INIT`. -/
theorem invariantHoldsAfterReset : Obligations.InvariantHoldsAfterReset := fun _ => ⟨rfl, fun _ => ⟨rfl, rfl⟩⟩

/-- Settles O14: the effects of an operation keep both halves of the invariant; a re-initialisation restores them. -/
theorem everyStepKeepsTheInvariant : Obligations.EveryStepKeepsTheInvariant := by
  intro s t hinv ht
  obtain ⟨u, hu, huinv⟩ := step_keeps inv_kept hinv fun _ _ => ⟨rfl, fun _ => ⟨rfl, rfl⟩⟩
  obtain rfl : u = t := Host.Outcome.next.inj (hu.symm.trans ht)
  exact huinv

/-- Settles O42: of an operation's effects only a decode, by RC.DEC or at the end of an RC frame, writes them. -/
theorem channelsAreWrittenOnlyByADecode : Obligations.ChannelsAreWrittenOnlyByADecode := by
  intro s t i hw ht
  obtain ⟨u, hu, heff⟩ := exec_effect i s
  obtain rfl : u = t := Host.Outcome.next.inj (hu.symm.trans ht)
  cases heff with
  | illegal => exact .inl ⟨rfl, rfl, rfl, rfl⟩
  | quiet u r _ q => exact .inl ⟨q.rcCh, q.rcValid, q.rcFailsafe, q.draws⟩
  | decode p r hi => exact .inr ⟨rfl, rfl, .inl ⟨p, hi⟩⟩
  | feed bs hbs =>
    rcases hbs with hwire | ⟨b, rfl, rfl⟩
    · exact absurd (hw.symm.trans hwire) Bool.false_ne_true
    · exact (receive_channels s b).imp id fun ⟨hvalid, hdraws, rs, hrsps⟩ =>
        ⟨hvalid, hdraws, .inr ⟨b, rs, rfl, hrsps⟩⟩

/-- Settles O43: no effect of an operation clears `rc_valid`. -/
theorem validStaysSetUntilReset : Obligations.ValidStaysSetUntilReset := by
  intro s t hvalid hhead ht
  obtain ⟨u, hu, huvalid⟩ := step_keeps rcValid_kept hvalid fun h => absurd h hhead
  obtain rfl : u = t := Host.Outcome.next.inj (hu.symm.trans ht)
  exact huvalid

/-- Settles O57: an early call leaves `tlm_last`, so the calls after it see the same interval. -/
theorem schedulerIsTrueOncePerInterval : Obligations.SchedulerIsTrueOncePerInterval := by
  intro s early now ht ha hearly hnow
  induction early generalizing s with
  | nil =>
    have hexec := exec_tlmUpdate_of_built ht ha now
    rw [if_pos hnow] at hexec
    rw [List.nil_append, List.map_singleton, runAll_cons hexec]
    simp [runAll, told]
  | cons n early ih =>
    obtain ⟨hn, hrest⟩ := List.forall_mem_cons.mp hearly
    have hexec := exec_tlmUpdate_of_built ht ha n
    rw [if_neg (not_le_of_gt hn)] at hexec
    rw [List.cons_append, List.map_cons, runAll_cons hexec, ih (told s [0x00, 0x00]) ht ha hrest hnow]
    simp [told]

/-- Settles O59: each of the eleven answers from the state as it is. -/
theorem readOperationsChangeNoState : Obligations.ReadOperationsChangeNoState := by
  intro s i hi
  cases i
  case crcUpd | crcBlk | crcChk => exact ⟨_, rfl⟩
  case rcGet | rcStat | rcTous | rcToraw | rcEnc | lsDec | fmHandle => exact finish_answer _ s _
  case tlmSend kind =>
    rw [exec, execTlmSend]
    split <;> exact finish_answer _ s _
  all_goals cases hi

/-- Settles O60: RX.RST writes the receiver's registers alone, and bytes reach the channel registers at most. -/
theorem receiverTouchesNoOtherUnit : Obligations.ReceiverTouchesNoOtherUnit := by
  intro s t i hi ht
  rcases hi with rfl | ⟨b, rfl⟩ | hw
  · obtain rfl := Host.Outcome.next.inj ht
    exact ⟨sameOutside_refl s, fun _ => ⟨rfl, rfl, rfl⟩⟩
  · obtain rfl := Host.Outcome.next.inj ht
    exact ⟨sameOutside_feed s [b], fun h => by cases h⟩
  · obtain ⟨bytes, hexec⟩ := exists_feed_of_onWire hw s
    obtain rfl := Host.Outcome.next.inj (hexec.symm.trans ht)
    exact ⟨sameOutside_feed s bytes, fun h => by rw [h] at hw; cases hw⟩

end Sys2Proof.Proofs

/-! Whole frames on the inbound stream (41_frame_receiver R128 to R133, 30_encoding R70, R81). -/

namespace Sys2Proof.Proofs

open Sys2Proof.Machine Sys2Proof.Claims

/-! A frame row is its bytes to the receiver. -/

theorem exec_frameInstr (t : Byte) (p : List Byte) (k : Byte) (s : State) :
    exec (frameInstr t p k) s = .next (s.feed (frameBytes t p k)) := by
  unfold frameInstr
  split_ifs <;> subst_vars <;> rfl

theorem exec_of_frameRow {i : Instr} {t : Byte} {p : List Byte} {k : Byte} (h : FrameRow i t p k) (s : State) :
    exec i s = .next (s.feed (frameBytes t p k)) := by
  rw [frameRow_iff.mp h, exec_frameInstr]

/-! The last byte of a frame fed from `IDLE`. -/

theorem feed_frameBytes (s : State) (t : Byte) (p : List Byte) (k : Byte) :
    s.feed (frameBytes t p k) = (s.feed ([0xC8, BitVec.ofNat 8 (p.length + 2), t] ++ p)).receive k :=
  feed_append s _ [k]

theorem wireFrame_eq_frameBytes (cfg : Config) (t : Byte) (p : List Byte) :
    wireFrame cfg t p = frameBytes t p (crc8 cfg (t :: p)) := rfl

/-- With the whole payload stored, the frame a COMPLETE emits holds that payload (R128). -/
theorem receivedFrame_eq {u : State} {p rest : List Byte} (hp : p.length ≤ 60)
    (hcnt : u.rxCnt = BitVec.ofNat 6 p.length) (hbuf : u.rxBuf.toList = p ++ rest) (k : Byte) :
    receivedFrame k u = ⟨u.rxLen, u.rxType, p, k⟩ := by
  have hn : (BitVec.ofNat 6 p.length).toNat = p.length := Nat.mod_eq_of_lt (by omega)
  rw [receivedFrame, State.payloadRead, hcnt, hn, hbuf, List.take_left]

/-- A wrong last byte is rejected; the receiver is in `IDLE` again and keeps what it read (R129). -/
theorem feed_frameBytes_of_ne (s : State) (t : Byte) (p : List Byte) (k : Byte) (h : s.rxState = .idle)
    (hp : p.length ≤ 60) (hk : k ≠ crc8 s.cfg (t :: p)) :
    ∃ buf, buf.toList = p ++ s.rxBuf.toList.drop p.length ∧
      s.feed (frameBytes t p k) =
        { s with
          rxState := .idle, rxLen := BitVec.ofNat 8 (p.length + 2), rxType := t, rxCnt := 0
          rxCrc := crc8 s.cfg (t :: p), rxBuf := buf
          rsps := s.rsps ++ List.replicate (p.length + 3) [0x01] ++ [[0x03, 0x02]] } := by
  obtain ⟨buf, hbuf, hfeed⟩ := feed_to_checksum s t p h hp
  refine ⟨buf, hbuf, ?_⟩
  rw [feed_frameBytes, hfeed, State.receive, rxStep_of_checksum_ne rfl hk]
  rfl

/-- The right last byte of a frame routed to RCU decodes its payload (R131). -/
theorem feed_wireFrame_of_toRcu (s : State) (t : Byte) (p : List Byte) (h : s.rxState = .idle)
    (hp : p.length ≤ 60) (hrc : ToRcu s.cfg t (p.length + 2)) :
    ∃ buf, buf.toList = p ++ s.rxBuf.toList.drop p.length ∧
      s.feed (wireFrame s.cfg t p) =
        { decoded s (unpack p) (Config.freeFailsafe s.draws) with
          rxState := .idle, rxLen := BitVec.ofNat 8 (p.length + 2), rxType := t, rxCnt := 0
          rxCrc := crc8 s.cfg (t :: p), rxBuf := buf
          rsps := s.rsps ++ List.replicate (p.length + 3) [0x01] ++
            [[0x02, 0x01, BitVec.ofNat 8 (p.length + 2), t] ++ p ++ [crc8 s.cfg (t :: p)]] } := by
  obtain ⟨buf, hbuf, hfeed⟩ := feed_to_checksum s t p h hp
  refine ⟨buf, hbuf, ?_⟩
  have hlen : (BitVec.ofNat 8 (p.length + 2)).toNat = p.length + 2 := Nat.mod_eq_of_lt (by omega)
  have hroute : ToRcu s.cfg t (BitVec.ofNat 8 (p.length + 2)).toNat := by
    rw [hlen]
    exact hrc
  rw [wireFrame_eq_frameBytes, feed_frameBytes, hfeed, State.receive,
    rxStep_of_checksum_eq (b := crc8 s.cfg (t :: p)) rfl rfl, receivedFrame_eq hp rfl hbuf,
    routeFrame_of_toRcu hroute, routeEvents_of_toRcu hroute]
  rfl

/-! One bit flipped behind the length byte. -/

theorem flipBit_append_of_lt {d : List Byte} {pos : Nat} (h : pos < d.length) (e : List Byte) (bit : Nat) :
    flipBit (d ++ e) pos bit = flipBit d pos bit ++ e := by
  induction d generalizing pos with
  | nil => exact absurd h (Nat.not_lt_zero _)
  | cons b d ih =>
    cases pos with
    | zero => rfl
    | succ pos => exact congrArg (b :: ·) (ih (Nat.lt_of_succ_lt_succ h))

theorem flipBit_append_singleton (d : List Byte) (k : Byte) (bit : Nat) :
    flipBit (d ++ [k]) d.length bit = d ++ [k ^^^ BitVec.twoPow 8 bit] := by
  induction d with
  | nil => rfl
  | cons b d ih => exact congrArg (b :: ·) ih

/-- A flipped bit of the type or the payload leaves the length. -/
theorem exists_flipBit_cons (t : Byte) (p : List Byte) (pos bit : Nat) :
    ∃ t' p', p'.length = p.length ∧ flipBit (t :: p) pos bit = t' :: p' := by
  cases pos with
  | zero => exact ⟨_, p, rfl, rfl⟩
  | succ pos => exact ⟨t, flipBit p pos bit, List.length_modify _ _ _, rfl⟩

/-- A frame with one bit of type, payload or checksum flipped is laid out as a frame, with a wrong last byte. -/
theorem flipBit_wireFrame {cfg : Config} (hpoly : cfg.crcPoly.getLsbD 0 = true) (t : Byte) (p : List Byte)
    {pos bit : Nat} (hpos : pos < p.length + 2) (hbit : bit < 8) :
    ∃ t' p' k', p'.length = p.length ∧ k' ≠ crc8 cfg (t' :: p') ∧
      flipBit (wireFrame cfg t p) (pos + 2) bit = frameBytes t' p' k' := by
  have hwire : flipBit (wireFrame cfg t p) (pos + 2) bit =
      0xC8 :: BitVec.ofNat 8 (p.length + 2) :: flipBit ((t :: p) ++ [crc8 cfg (t :: p)]) pos bit := rfl
  rw [hwire]
  by_cases hlt : pos < (t :: p).length
  · have hne := singleBitErrorChangesTheChecksum cfg (t :: p) pos bit hpoly hlt hbit
    obtain ⟨t', p', hlen, hflip⟩ := exists_flipBit_cons t p pos bit
    rw [hflip] at hne
    refine ⟨t', p', _, hlen, hne.symm, ?_⟩
    rw [flipBit_append_of_lt hlt, hflip, frameBytes, hlen]
    rfl
  · obtain rfl : pos = (t :: p).length := by
      rw [List.length_cons] at hlt ⊢
      omega
    rw [flipBit_append_singleton]
    exact ⟨t, p, _, rfl, xor_twoPow_ne _ hbit, rfl⟩

/-! The bytes a frame still takes (R133 b). -/

/-- How many bytes at most until the receiver is in `IDLE`. -/
def bytesToIdle (s : State) : Nat :=
  match s.rxState with
  | .idle => 0
  | .awaitLen => 63
  | .awaitType => s.rxLen.toNat
  | .payload => s.rxLen.toNat - 1 - s.rxCnt.toNat
  | .awaitCrc => 1

theorem rxInv_of_awaitType {s : State} (h : s.RxInv) (hs : s.rxState = .awaitType) :
    2 ≤ s.rxLen.toNat ∧ s.rxLen.toNat ≤ 62 := by
  simp only [State.RxInv, hs] at h
  exact h.2

theorem bytesToIdle_le {s : State} (h : s.RxInv) : bytesToIdle s ≤ 63 := by
  rw [bytesToIdle]
  split <;> rename_i hs
  case h_3 => exact (rxInv_of_awaitType h hs).2.trans (by decide)
  case h_4 =>
    obtain ⟨-, hle, -⟩ := rxInv_of_payload h hs
    omega
  all_goals decide

/-- Outside `IDLE` every byte brings the receiver nearer to it. -/
theorem bytesToIdle_receive_lt {s : State} (h : s.RxInv) (hs : s.rxState ≠ .idle) (b : Byte) :
    bytesToIdle (s.receive b) < bytesToIdle s := by
  rw [State.receive]
  cases hstate : s.rxState with
  | idle => exact absurd hstate hs
  | awaitLen =>
    rw [rxStep_of_awaitLen hstate]
    split <;> simp only [bytesToIdle, State.answer, hstate] <;> omega
  | awaitType =>
    obtain ⟨hmin, -⟩ := rxInv_of_awaitType h hstate
    rw [rxStep_of_awaitType hstate]
    by_cases hempty : s.rxLen.toNat = 2
    · simp [bytesToIdle, State.answer, hstate, hempty]
    · simp only [bytesToIdle, State.answer, hstate, hempty, if_false]
      omega
  | payload =>
    obtain ⟨hlt, hle, -⟩ := rxInv_of_payload h hstate
    have hcnt : (s.rxCnt + 1).toNat = s.rxCnt.toNat + 1 := rxCnt_succ_toNat (by omega)
    rw [rxStep_of_payload hstate]
    by_cases hlast : s.rxCnt.toNat + 3 = s.rxLen.toNat
    · simp only [bytesToIdle, State.answer, hstate, hlast, if_true]
      omega
    · simp only [bytesToIdle, State.answer, hstate, hlast, if_false, hcnt]
      omega
  | awaitCrc =>
    have hidle : (rxStep b s).1.rxState = .idle := by
      by_cases hb : b = s.rxCrc
      · rw [rxStep_of_checksum_eq hstate hb]
        rfl
      · rw [rxStep_of_checksum_ne hstate hb]
        rfl
    simp [bytesToIdle, hidle, hstate]

theorem exists_take_idle (bytes : List Byte) {s : State} (h : s.RxInv) (hle : bytesToIdle s ≤ bytes.length) :
    ∃ n ≤ bytes.length, (s.feed (bytes.take n)).rxState = .idle := by
  induction bytes generalizing s with
  | nil =>
    refine ⟨0, Nat.le_refl _, Decidable.by_contra fun hs => ?_⟩
    exact absurd ((bytesToIdle_receive_lt h hs 0).trans_le hle) (Nat.not_lt_zero _)
  | cons b bytes ih =>
    by_cases hs : s.rxState = .idle
    · exact ⟨0, Nat.zero_le _, hs⟩
    · have hlt := bytesToIdle_receive_lt h hs b
      obtain ⟨n, hn, hidle⟩ := ih (receive_rxInv s b h) (Nat.lt_succ_iff.mp (hlt.trans_le hle))
      exact ⟨n + 1, Nat.succ_le_succ hn, hidle⟩

/-! The statements. -/

/-- Settles O25: each row gives the receiver the bytes of its frame, and RX.BYTE never stops. -/
theorem frameRowsAreRxFeed : Obligations.FrameRowsAreRxFeed :=
  fun s _ _ _ _ h => ⟨_, rxFeed_eq_feed _ s, exec_of_frameRow h s⟩

/-- Settles O26: the row's bytes are a frame with its own checksum, which the receiver completes on the no-op path. -/
theorem wellFormedFrameCompletes : Obligations.WellFormedFrameCompletes := by
  intro s i t p hrow hidle hp hrc
  obtain ⟨buf, hbuf, hfeed⟩ := feed_wireFrame_of_not_toRcu s t p hidle hp hrc
  exact ⟨buf, hbuf, (exec_of_frameRow hrow s).trans (congrArg _ hfeed)⟩

/-- Settles O27: the frame is routed to RCU, and the shifts of its payload's integer are the table of R85. -/
theorem rcFrameIsDecoded : Obligations.RcFrameIsDecoded := by
  intro s p hrc hidle hp
  have hlen : p.length + 2 = 24 := congrArg (· + 2) hp
  obtain ⟨buf, hbuf, hfeed⟩ := feed_wireFrame_of_toRcu s 0x16 p hidle (by omega) ⟨hrc, rfl, hlen⟩
  rw [hp] at hbuf hfeed
  exact ⟨unpack p, Config.freeFailsafe s.draws, buf, unpack_eq_channelTable p, hbuf,
    (exec_frameInstr 0x16 p _ s).trans (congrArg _ hfeed)⟩

/-- Settles O28: the bytes before the last fill the receiver, and the last one differs from `rx_crc`. -/
theorem corruptFrameIsRejected : Obligations.CorruptFrameIsRejected := by
  intro s i t p k hrow hidle hp hk
  obtain ⟨buf, hbuf, hfeed⟩ := feed_frameBytes_of_ne s t p k hidle hp hk
  exact ⟨buf, hbuf, (exec_of_frameRow hrow s).trans (congrArg _ hfeed)⟩

/-- Settles O29: the flipped frame is a frame with a wrong last byte, so the next one finds the receiver in `IDLE`. -/
theorem singleBitCorruptionIsRejectedAndTheNextFrameParsed :
    Obligations.SingleBitCorruptionIsRejectedAndTheNextFrameParsed := by
  intro s t t2 p p2 pos bit hpoly hidle hp hp2 hpos hbit
  obtain ⟨t', p', k', hlen, hk, hflip⟩ := flipBit_wireFrame hpoly t p hpos hbit
  obtain ⟨buf, -, hfeed⟩ := feed_frameBytes_of_ne s t' p' k' hidle (by omega) hk
  rw [rxFeed_eq_feed, feed_append, hflip]
  have hrejected : (s.feed (frameBytes t' p' k')).rxState = .idle := by rw [hfeed]
  obtain ⟨hidle2, ev, hrsps⟩ := feed_wireFrame (s.feed (frameBytes t' p' k')) t2 p2 hrejected hp2
  rw [feed_cfg] at hidle2 hrsps
  refine ⟨_, ev, rfl, hidle2, hrsps.trans ?_⟩
  rw [hfeed, hlen]

/-- Settles O31: every byte outside `IDLE` brings the receiver nearer, and it starts at most 63 bytes away. -/
theorem receiverIsIdleWithinSixtyThreeBytes : Obligations.ReceiverIsIdleWithinSixtyThreeBytes := by
  intro s bytes hinv hlen
  have hle := bytesToIdle_le hinv
  rw [← hlen] at hle ⊢
  obtain ⟨n, hn, hidle⟩ := exists_take_idle bytes hinv hle
  exact ⟨n, _, hn, rxFeed_eq_feed _ s, hidle⟩

end Sys2Proof.Proofs

/-! The round trips of the unit conversions (42_rc_channel R167). -/

namespace Sys2Proof.Proofs

open Sys2Proof.Machine Sys2Proof.Claims

/-- From 881 up and within 16 bits `to_raw` rounds the inverse fraction 1639/1024 half up, saturated. -/
theorem toRaw_toNat_of_ge {us : Half} (h : 881 ≤ us.toNat) :
    (toRaw us).toNat = min (((us.toNat - 881) * 1639 + 512) / 1024) 65535 := by
  rw [toRaw_toNat, toRawInt_of_ge h, toRawExact_eq_inverse h us.isLt, Nat.shiftRight_eq_div_pow]

theorem toUs_toNat_eq_nearest (raw : Half) : (toUs raw).toNat = (raw.toNat * 2048 + 1639) / 3278 + 881 := by
  rw [toUs_toNat, toUsInt_eq_nearest raw.isLt]

/-- Settles O39: a raw unit is 1024/1639 microseconds. Rounding to microseconds is off by at most 0.81 raw units, so the
way back ends at most one unit off; rounding to raw units is off by at most 0.32 microseconds, so the way back is exact. -/
theorem unitConversionRoundTrip : Obligations.UnitConversionRoundTrip := by
  refine ⟨fun raw hraw => ?_, fun us hlow hhigh => BitVec.eq_of_toNat_eq ?_⟩
  · have hus := toUs_toNat_eq_nearest raw
    have hback := toRaw_toNat_of_ge (us := toUs raw) (by omega)
    omega
  · have hraw := toRaw_toNat_of_ge (us := us) (by omega)
    have hback := toUs_toNat_eq_nearest (toRaw us)
    omega

end Sys2Proof.Proofs
